-- ==== Sys2Proof/Word.lean ====
section
/-! DEFINITION. The word types of the block: the 32-bit register word, the 8-bit sample and byte offset, and the
41-bit transaction word (spec/00_scope.md R6, spec/30_encoding.md R56). -/

namespace Sys2Proof

/-- A 32-bit register word; every transaction moves one (R45). -/
abbrev Word := BitVec 32

/-- An 8-bit sample, byte offset or index field (R6, R17, R40). -/
abbrev Byte := BitVec 8

/-- A host transaction as one 41-bit word `WE, ADDR, WDATA`, most significant field first (R56). -/
abbrev TransactionWord := BitVec 41

end Sys2Proof
end

