-- ==== Sys2Proof/Syntax.lean ====
section
/-! DEFINITION. The transactions a host can issue, one constructor per row of spec/opcode_table.json (rules R70 to R94
of spec/40_host_access.md). The block executes no program; the host's transactions play the part of instructions (R3). -/

namespace Sys2Proof

/-- A decoded transaction. A read carries no write data, because the decoder does not look at it (R57). A write carries
its `WDATA` whole, ignored bits included (the Operands line of each rule); a table access carries its word index
`n = ADDR[4:2]` (R60); BUSERR carries its direction and `ADDR`, its only operand (R94). -/
inductive Instr where
  /-- `RD_CTRL` (R70) -/
  | rdCtrl
  /-- `WR_CTRL_NOP` (R71): `WDATA[1:0] = 0b00` -/
  | wrCtrlNop (wdata : Word)
  /-- `WR_CTRL_START` (R72): `WDATA[1:0] = 0b01` -/
  | wrCtrlStart (wdata : Word)
  /-- `WR_CTRL_CLEAR` (R73): `WDATA[1] = 1` -/
  | wrCtrlClear (wdata : Word)
  /-- `RD_STATUS` (R74) -/
  | rdStatus
  /-- `WR_STATUS` (R75) -/
  | wrStatus (wdata : Word)
  /-- `RD_SAMPLE_DATA` (R76) -/
  | rdSampleData
  /-- `WR_SAMPLE_DATA` (R77) -/
  | wrSampleData (wdata : Word)
  /-- `RD_DIAG` (R78) -/
  | rdDiag
  /-- `WR_DIAG` (R79) -/
  | wrDiag (wdata : Word)
  /-- `RD_ERRINFO` (R80) -/
  | rdErrinfo
  /-- `WR_ERRINFO` (R81) -/
  | wrErrinfo (wdata : Word)
  /-- `RD_MSLUT` (R82) -/
  | rdMslut (n : BitVec 3)
  /-- `WR_MSLUT` (R83) -/
  | wrMslut (n : BitVec 3) (wdata : Word)
  /-- `RD_MSLUTSEL` (R84) -/
  | rdMslutsel
  /-- `WR_MSLUTSEL` (R85) -/
  | wrMslutsel (wdata : Word)
  /-- `RD_MSLUTSTART` (R86) -/
  | rdMslutstart
  /-- `WR_MSLUTSTART` (R87) -/
  | wrMslutstart (wdata : Word)
  /-- `RD_WIN_IDX` (R88) -/
  | rdWinIdx
  /-- `WR_WIN_IDX` (R89) -/
  | wrWinIdx (wdata : Word)
  /-- `RD_RECON_DATA` (R90) -/
  | rdReconData
  /-- `WR_RECON_DATA` (R91) -/
  | wrReconData (wdata : Word)
  /-- `RD_ORIG_DATA` (R92) -/
  | rdOrigData
  /-- `WR_ORIG_DATA` (R93) -/
  | wrOrigData (wdata : Word)
  /-- `BUSERR` (R94): a transaction of a misaligned or unmapped offset, `we` saying whether it writes -/
  | buserr (we : Bool) (addr : Byte)
deriving DecidableEq, Repr

end Sys2Proof
end

