-- ==== Sys2Proof/Machine/Operands.lean ====
section
/-! DEFINITION. Operand assembly (spec/30_encoding.md R60) and the widenings of spec/00_scope.md R9: every operand is
taken from WDATA or ADDR, with no scaling, shifting or sign extension. -/

namespace Sys2Proof.Machine

/-- `CTRL.START = WDATA[0]` (R29, R60). -/
def ctrlStart (wdata : Word) : Bool := wdata.getLsbD 0

/-- `CTRL.CLEAR = WDATA[1]` (R29, R60). -/
def ctrlClear (wdata : Word) : Bool := wdata.getLsbD 1

/-- The stored slot value `WDATA[7:0]` (R60, R77). -/
def sampleByte (wdata : Word) : Byte := wdata.extractLsb' 0 8

/-- The range test of a sample write fails: `WDATA[31:8] != 0`, which is `s32(WDATA)` outside [0, 255] (R19, R60,
R77). -/
def sampleOutOfRange (wdata : Word) : Bool := wdata.extractLsb' 8 24 != 0

/-- The new `WIN_IDX`, `WDATA[7:0]` (R60, R89). -/
def windowIndex (wdata : Word) : Byte := wdata.extractLsb' 0 8

/-- `zext_32` of an 8-bit value (R9). -/
def zext32 (v : Byte) : Word := v.zeroExtend 32

/-- `u32(v)`: the 32-bit two's-complement encoding of an integer (R9). -/
def u32 (v : Int) : Word := BitVec.ofInt 32 v

/-- Byte lane `j` of a word, its bits `[8j+7 : 8j]`, which a host that addresses bytes sees at byte address `a + j`
(R42). No transaction observes it: every access moves the whole word (R45). -/
def byteLane (w : Word) (j : Nat) : Byte := w.extractLsb' (8 * j) 8

/-- The transaction is a read: it returns read data and changes no state of the block (R46). -/
def isRead : Instr → Bool
  | .rdCtrl | .rdStatus | .rdSampleData | .rdDiag | .rdErrinfo | .rdMslut _ | .rdMslutsel | .rdMslutstart
  | .rdWinIdx | .rdReconData | .rdOrigData => true
  | .buserr we _ => !we
  | .wrCtrlNop _ | .wrCtrlStart _ | .wrCtrlClear _ | .wrStatus _ | .wrSampleData _ | .wrDiag _ | .wrErrinfo _
  | .wrMslut _ _ | .wrMslutsel _ | .wrMslutstart _ | .wrWinIdx _ | .wrReconData _ | .wrOrigData _ => false

end Sys2Proof.Machine
end

