-- ==== Sys2Proof/Config.lean ====
section
/-! DEFINITION. The block's fixed parameters (spec/00_scope.md R6) and its one free value: what a sample slot holds
after a reset until it is written (spec/10_state.md R17, spec/70_reset_and_hazards.md R145). The open parameter
`ENC_LATENCY` (R7, R156) is no constant here: where the completion step falls is data of the state (`State.events`). -/

namespace Sys2Proof.Config

/-- `N_SAMPLES`: samples per waveform, and slots of the sample buffer (R6, R17). -/
abbrev nSamples : Nat := 256

/-- `N_DELTAS`: differences of consecutive samples (R6). -/
abbrev nDeltas : Nat := 255

/-- `N_ZONES`: zones that three transition indices separate (R6, 90_conflicts.md C3). -/
abbrev nZones : Nat := 4

/-- `AMPL_WARN_LIMIT`: the warning is given when the largest sample exceeds it (R6, R98). -/
abbrev amplWarnLimit : Nat := 247

/-- The largest value of `SCOUNT`, which means "more than 256 samples were written" (R18). -/
abbrev scountMax : Nat := 257

/-- The free value of the block: the 8-bit value that sample slot `k` is left with by reset number `n` (0 is the
reset that starts the machine). The spec calls it unspecified and lets a model draw any value per slot, once, at reset
(R17, R145; 93_implementation_defined.md part 1). It has no body, so nothing can be proved about it. Log entry 1. -/
opaque resetSample (n k : Nat) : Byte

end Sys2Proof.Config
end

