-- ==== Sys2Proof/Machine/Map.lean ====
section
/-! DEFINITION. The register map (spec/20_memory.md R40, R44, R48, R49; spec/30_encoding.md R64): the registers by
name, their byte offsets, and the register at an offset. -/

namespace Sys2Proof.Machine

/-- The register names of the map (R48, R64); `mslut n` is the table word `MSLUTn`. -/
inductive Register where
  | ctrl | status | sampleData | diag | errinfo
  | mslut (n : BitVec 3)
  | mslutsel | mslutstart | winIdx | reconData | origData
deriving DecidableEq, Repr

/-- The byte offset of a register (R48); a table word stands at `0b001nnn00` (R82). -/
def Register.offset : Register → Byte
  | .ctrl => 0x00#8
  | .status => 0x04#8
  | .sampleData => 0x08#8
  | .diag => 0x0C#8
  | .errinfo => 0x10#8
  | .mslut n => (0b001#3 ++ n ++ 0b00#2).cast (by decide)
  | .mslutsel => 0x40#8
  | .mslutstart => 0x44#8
  | .winIdx => 0x50#8
  | .reconData => 0x54#8
  | .origData => 0x58#8

/-- The alignment rule: `ADDR[1:0] = 0b00` (R44). -/
def aligned (addr : Byte) : Bool := addr.extractLsb' 0 2 == 0b00#2

/-- The register whose word stands at an aligned offset; `none` for a misaligned offset (R44), which is never rounded
down to a word, and for the reserved aligned offsets (R49). -/
def registerAt (addr : Byte) : Option Register :=
  if !aligned addr then none
  else if addr = 0x00#8 then some .ctrl
  else if addr = 0x04#8 then some .status
  else if addr = 0x08#8 then some .sampleData
  else if addr = 0x0C#8 then some .diag
  else if addr = 0x10#8 then some .errinfo
  else if 0x20#8 ≤ addr ∧ addr ≤ 0x3C#8 then some (.mslut (addr.extractLsb' 2 3))
  else if addr = 0x40#8 then some .mslutsel
  else if addr = 0x44#8 then some .mslutstart
  else if addr = 0x50#8 then some .winIdx
  else if addr = 0x54#8 then some .reconData
  else if addr = 0x58#8 then some .origData
  else none

/-- The offset is one of the register map (R48). -/
def mapped (addr : Byte) : Bool := (registerAt addr).isSome

end Sys2Proof.Machine
end

