-- ==== Sys2Proof/WellFormed.lean ====
section
/-! DEFINITION. Which transactions the encoding has a word for: the operand conditions of spec/40_host_access.md R71,
R72, R73 and R94. -/

namespace Sys2Proof

/-- The operands are ones the row's encoding admits. The three CTRL rows split the write data by its bits 1:0 (R71 to
R73); BUSERR has exactly the offsets outside the map (R94); every other operand may take any value. -/
def Instr.wf : Instr → Bool
  | .wrCtrlNop wdata => wdata.extractLsb' 0 2 == 0b00#2
  | .wrCtrlStart wdata => wdata.extractLsb' 0 2 == 0b01#2
  | .wrCtrlClear wdata => wdata.getLsbD 1
  | .buserr _ addr => !Machine.mapped addr
  | .rdCtrl | .rdStatus | .wrStatus _ | .rdSampleData | .wrSampleData _ | .rdDiag | .wrDiag _ | .rdErrinfo
  | .wrErrinfo _ | .rdMslut _ | .wrMslut _ _ | .rdMslutsel | .wrMslutsel _ | .rdMslutstart | .wrMslutstart _
  | .rdWinIdx | .wrWinIdx _ | .rdReconData | .wrReconData _ | .rdOrigData | .wrOrigData _ => true

end Sys2Proof
end

