-- ==== Sys2Proof/Decode.lean ====
section
/-! DEFINITION. The decoder of transaction words (spec/30_encoding.md R56 to R62), the encoder, and the match and mask
table of spec/opcode_table.json (R59). -/

namespace Sys2Proof

open Machine (Register registerAt ctrlStart ctrlClear)

/-- `WE = TW[40]`: 1 for a write (R56). -/
def TransactionWord.we (tw : TransactionWord) : Bool := tw.getLsbD 40

/-- `ADDR = TW[39:32]` (R56). -/
def TransactionWord.addr (tw : TransactionWord) : Byte := tw.extractLsb' 32 8

/-- `WDATA = TW[31:0]` (R56). -/
def TransactionWord.wdata (tw : TransactionWord) : Word := tw.extractLsb' 0 32

/-- The word with the three given fields, `TW = WE·2^40 + ADDR·2^32 + WDATA` (R56). -/
def transactionWord (we : Bool) (addr : Byte) (wdata : Word) : TransactionWord :=
  (BitVec.ofBool we ++ addr ++ wdata).cast (by decide)

/-- The read row of a register (R58). -/
def decodeRead : Register → Instr
  | .ctrl => .rdCtrl
  | .status => .rdStatus
  | .sampleData => .rdSampleData
  | .diag => .rdDiag
  | .errinfo => .rdErrinfo
  | .mslut n => .rdMslut n
  | .mslutsel => .rdMslutsel
  | .mslutstart => .rdMslutstart
  | .winIdx => .rdWinIdx
  | .reconData => .rdReconData
  | .origData => .rdOrigData

/-- The row of a CTRL write: CLEAR is looked at first, so it wins over START (R58, R73). -/
def decodeCtrlWrite (wdata : Word) : Instr :=
  if ctrlClear wdata then .wrCtrlClear wdata
  else if ctrlStart wdata then .wrCtrlStart wdata
  else .wrCtrlNop wdata

/-- The write row of a register (R58). -/
def decodeWrite (r : Register) (wdata : Word) : Instr :=
  match r with
  | .ctrl => decodeCtrlWrite wdata
  | .status => .wrStatus wdata
  | .sampleData => .wrSampleData wdata
  | .diag => .wrDiag wdata
  | .errinfo => .wrErrinfo wdata
  | .mslut n => .wrMslut n wdata
  | .mslutsel => .wrMslutsel wdata
  | .mslutstart => .wrMslutstart wdata
  | .winIdx => .wrWinIdx wdata
  | .reconData => .wrReconData wdata
  | .origData => .wrOrigData wdata

/-- `DECODE` (R58): a misaligned or unmapped offset is BUSERR, every other word is the row of its register. Total:
every 41-bit word is exactly one row. -/
def decode (tw : TransactionWord) : Instr :=
  match registerAt tw.addr with
  | none => .buserr tw.we tw.addr
  | some r => if tw.we then decodeWrite r tw.wdata else decodeRead r

/-- Why a number is no transaction. -/
inductive DecodeError where
  /-- The number has a bit above bit 40, and every transaction is one 41-bit word (R62). Safe: no bus carries it. -/
  | widerThanTransactionWord
deriving DecidableEq, Repr

/-- The decoder on any number: rejected by name when it is no 41-bit word. -/
def decodeNumber (w : Nat) : Except DecodeError Instr :=
  if w < 2 ^ 41 then .ok (decode (BitVec.ofNat 41 w)) else .error .widerThanTransactionWord

/-- The instruction the decoder reads from the bits `w` of a row of spec/opcode_table.json, `nbits` of them given by
the table and every bit above them 0. The table numbers the bits as the transaction word does (R56, R59). -/
def decodeTableWord (nbits w : Nat) : Option Instr :=
  match decodeNumber (w % 2 ^ nbits) with
  | .ok i => some i
  | .error _ => none

/-- The word of a transaction: the offset of its register, its direction, and its write data; a read and BUSERR have
the canonical `WDATA = 0` (R56, R57). -/
def encode : Instr → TransactionWord
  | .rdCtrl => transactionWord false Register.ctrl.offset 0
  | .wrCtrlNop wdata => transactionWord true Register.ctrl.offset wdata
  | .wrCtrlStart wdata => transactionWord true Register.ctrl.offset wdata
  | .wrCtrlClear wdata => transactionWord true Register.ctrl.offset wdata
  | .rdStatus => transactionWord false Register.status.offset 0
  | .wrStatus wdata => transactionWord true Register.status.offset wdata
  | .rdSampleData => transactionWord false Register.sampleData.offset 0
  | .wrSampleData wdata => transactionWord true Register.sampleData.offset wdata
  | .rdDiag => transactionWord false Register.diag.offset 0
  | .wrDiag wdata => transactionWord true Register.diag.offset wdata
  | .rdErrinfo => transactionWord false Register.errinfo.offset 0
  | .wrErrinfo wdata => transactionWord true Register.errinfo.offset wdata
  | .rdMslut n => transactionWord false (Register.mslut n).offset 0
  | .wrMslut n wdata => transactionWord true (Register.mslut n).offset wdata
  | .rdMslutsel => transactionWord false Register.mslutsel.offset 0
  | .wrMslutsel wdata => transactionWord true Register.mslutsel.offset wdata
  | .rdMslutstart => transactionWord false Register.mslutstart.offset 0
  | .wrMslutstart wdata => transactionWord true Register.mslutstart.offset wdata
  | .rdWinIdx => transactionWord false Register.winIdx.offset 0
  | .wrWinIdx wdata => transactionWord true Register.winIdx.offset wdata
  | .rdReconData => transactionWord false Register.reconData.offset 0
  | .wrReconData wdata => transactionWord true Register.reconData.offset wdata
  | .rdOrigData => transactionWord false Register.origData.offset 0
  | .wrOrigData wdata => transactionWord true Register.origData.offset wdata
  | .buserr we addr => transactionWord we addr 0

/-- The row's name in spec/opcode_table.json. -/
def Instr.mnemonic : Instr → String
  | .rdCtrl => "RD_CTRL"
  | .wrCtrlNop _ => "WR_CTRL_NOP"
  | .wrCtrlStart _ => "WR_CTRL_START"
  | .wrCtrlClear _ => "WR_CTRL_CLEAR"
  | .rdStatus => "RD_STATUS"
  | .wrStatus _ => "WR_STATUS"
  | .rdSampleData => "RD_SAMPLE_DATA"
  | .wrSampleData _ => "WR_SAMPLE_DATA"
  | .rdDiag => "RD_DIAG"
  | .wrDiag _ => "WR_DIAG"
  | .rdErrinfo => "RD_ERRINFO"
  | .wrErrinfo _ => "WR_ERRINFO"
  | .rdMslut _ => "RD_MSLUT"
  | .wrMslut _ _ => "WR_MSLUT"
  | .rdMslutsel => "RD_MSLUTSEL"
  | .wrMslutsel _ => "WR_MSLUTSEL"
  | .rdMslutstart => "RD_MSLUTSTART"
  | .wrMslutstart _ => "WR_MSLUTSTART"
  | .rdWinIdx => "RD_WIN_IDX"
  | .wrWinIdx _ => "WR_WIN_IDX"
  | .rdReconData => "RD_RECON_DATA"
  | .wrReconData _ => "WR_RECON_DATA"
  | .rdOrigData => "RD_ORIG_DATA"
  | .wrOrigData _ => "WR_ORIG_DATA"
  | .buserr _ _ => "BUSERR"

/-- One row of spec/opcode_table.json (R59). -/
structure OpcodeRow where
  mnemonic : String
  pattern : TransactionWord
  mask : TransactionWord
deriving DecidableEq, Repr

/-- The row applies: `(TW & mask) == match` (R59). -/
def OpcodeRow.matches (row : OpcodeRow) (tw : TransactionWord) : Bool := (tw &&& row.mask) == row.pattern

/-- The rows of spec/opcode_table.json but BUSERR, which has mask 0 and applies only where no other row does (R59). -/
def opcodeTable : List OpcodeRow :=
  [ ⟨"RD_CTRL", 0x00000000000, 0x1FF00000000⟩, ⟨"WR_CTRL_NOP", 0x10000000000, 0x1FF00000003⟩,
    ⟨"WR_CTRL_START", 0x10000000001, 0x1FF00000003⟩, ⟨"WR_CTRL_CLEAR", 0x10000000002, 0x1FF00000002⟩,
    ⟨"RD_STATUS", 0x00400000000, 0x1FF00000000⟩, ⟨"WR_STATUS", 0x10400000000, 0x1FF00000000⟩,
    ⟨"RD_SAMPLE_DATA", 0x00800000000, 0x1FF00000000⟩, ⟨"WR_SAMPLE_DATA", 0x10800000000, 0x1FF00000000⟩,
    ⟨"RD_DIAG", 0x00C00000000, 0x1FF00000000⟩, ⟨"WR_DIAG", 0x10C00000000, 0x1FF00000000⟩,
    ⟨"RD_ERRINFO", 0x01000000000, 0x1FF00000000⟩, ⟨"WR_ERRINFO", 0x11000000000, 0x1FF00000000⟩ ] ++
  [ ⟨"RD_MSLUT", 0x02000000000, 0x1E300000000⟩, ⟨"WR_MSLUT", 0x12000000000, 0x1E300000000⟩,
    ⟨"RD_MSLUTSEL", 0x04000000000, 0x1FF00000000⟩, ⟨"WR_MSLUTSEL", 0x14000000000, 0x1FF00000000⟩,
    ⟨"RD_MSLUTSTART", 0x04400000000, 0x1FF00000000⟩, ⟨"WR_MSLUTSTART", 0x14400000000, 0x1FF00000000⟩,
    ⟨"RD_WIN_IDX", 0x05000000000, 0x1FF00000000⟩, ⟨"WR_WIN_IDX", 0x15000000000, 0x1FF00000000⟩,
    ⟨"RD_RECON_DATA", 0x05400000000, 0x1FF00000000⟩, ⟨"WR_RECON_DATA", 0x15400000000, 0x1FF00000000⟩,
    ⟨"RD_ORIG_DATA", 0x05800000000, 0x1FF00000000⟩, ⟨"WR_ORIG_DATA", 0x15800000000, 0x1FF00000000⟩ ]

/-- The mnemonic the table gives a word: its matching row's, and BUSERR where none matches (R59). -/
def tableMnemonic (tw : TransactionWord) : String :=
  match opcodeTable.find? (·.matches tw) with
  | some row => row.mnemonic
  | none => "BUSERR"

end Sys2Proof
end

