-- ==== Sys2Proof/Machine/State.lean ====
section
/-! DEFINITION. The state of the block (spec/10_state.md R15 to R39), the events that drive it (spec/20_memory.md R51),
its faults and refusals, and the state after reset (spec/70_reset_and_hazards.md R145). -/

namespace Sys2Proof.Machine

/-- The error codes of `STATUS.ERRCODE` (R27, R125). The values 5 to 7, never produced, have no constructor. -/
inductive ErrCode where
  | none      -- 0: success, or no encode yet
  | shape     -- 1: ShapeError
  | step      -- 2: EncodingError, non-monotone or step too large
  | pattern   -- 3: EncodingError, not representable in the zone scheme
  | internal  -- 4: InternalConsistencyError
deriving DecidableEq, Repr

/-- The fields of DIAG (R31); the reserved bits hold no state and read 0. -/
structure Diag where
  upperCount : Byte
  nzones : BitVec 3
  maxSample : Byte
deriving DecidableEq, Repr

/-- The fields of ERRINFO (R32); the reserved bits hold no state and read 0. -/
structure ErrInfo where
  index : Byte
  countBad : Bool
  rangeBad : Bool
deriving DecidableEq, Repr

/-- The RegisterSet: the ten output registers (R33 to R35). MSLUTSTART holds 16 of its 32 bits (R39): `startSin` at
bits 7:0 and `startSin90` at bits 23:16. -/
structure RegisterSet where
  mslut : Vector Word 8
  mslutsel : Word
  startSin : Byte
  startSin90 : Byte
deriving DecidableEq, Repr

/-- DIAG at 0 (R31). -/
def Diag.zero : Diag := ⟨0, 0, 0⟩

/-- ERRINFO at 0 (R32). -/
def ErrInfo.zero : ErrInfo := ⟨0, false, false⟩

/-- Every RegisterSet register at 0: the reset state and the state after an error completion (R33 to R35, R128). -/
def RegisterSet.zero : RegisterSet := ⟨#v[0, 0, 0, 0, 0, 0, 0, 0], 0, 0, 0⟩

/-- The response line of a transaction (R56). -/
inductive Resp where
  | okay
  | buserr
deriving DecidableEq, Repr

/-- What a transaction returns to the host: `resp`, and `rdata` for a read and for a bus error (R56, R68, R132);
a write that gets OKAY returns no read data. -/
structure Response where
  resp : Resp
  rdata : Option Word
deriving DecidableEq, Repr

/-- The atomic events of the block, which happen one at a time in one total order (R51, R145, R148). -/
inductive Event where
  /-- The host issues one transaction (R68). -/
  | transaction (tw : TransactionWord)
  /-- The engine's turn: its completion step, where it is enabled (R95). -/
  | engine
  /-- The reset input is asserted (R145). -/
  | reset
deriving DecidableEq, Repr

/-- The sample slots written since the last reset, as (slot, sample) pairs. -/
abbrev Memory := List Host.Cell

/-- The state: every element of the inventory R39, and three fields of the model's own (the last three). -/
structure State where
  /-- The sample buffer `smp[0..255]` (R17): the slots written since the last reset, slots strictly rising. A slot
  not listed holds the value that reset left in it (`State.slot`, log entry 1). -/
  smp : Memory
  /-- `SCOUNT`, 9 bits, legal values 0 to 257 (R18, R28). -/
  scount : BitVec 9
  /-- `RANGE_FLAG` (R19, R26). -/
  rangeFlag : Bool
  /-- `STATUS.BUSY` (R21): an encode is pending. -/
  busy : Bool
  /-- `STATUS.VALID` (R22). -/
  valid : Bool
  /-- `STATUS.ERROR` (R23). -/
  error : Bool
  /-- `STATUS.WARN_AMPL` (R24). -/
  warnAmpl : Bool
  /-- `STATUS.WR_IGNORED` (R25). -/
  wrIgnored : Bool
  /-- `STATUS.ERRCODE` (R27). -/
  errcode : ErrCode
  /-- DIAG (R31). -/
  diag : Diag
  /-- ERRINFO (R32). -/
  errinfo : ErrInfo
  /-- MSLUT0 to MSLUT7, MSLUTSEL and MSLUTSTART (R33 to R35). -/
  regs : RegisterSet
  /-- `WIN_IDX`, 8 bits (R36). -/
  winIdx : Byte
  /-- The MODEL's field: the response the host got to its last transaction, `none` before the first one since reset
  (R56, R68; log entry 4). It is output, not state of the block: no rule reads it. -/
  response : Option Response
  /-- The MODEL's field: the events that the host, the engine's latency and the reset input will produce, in the order
  in which they happen (R51, R153, R156; log entries 2 and 3). -/
  events : List Event
  /-- The MODEL's field: how many resets the machine has taken after the one that starts it. It indexes the draws of
  the unwritten sample slots (R145, log entry 1). -/
  resets : Nat
deriving DecidableEq, Repr

/-- The machine stops with a fault: never. Every transaction, the completion step and reset have the effect the spec
gives them; a bus error and an encode error are effects (R11, R132, R135). -/
inductive Fault where
deriving DecidableEq, Repr

/-- Why an instruction is turned away. -/
inductive Refusal where
  /-- Raised by `exec` for a row of spec/opcode_table.json that has no meaning yet; no row is left so. Safe: the model
  stops where the hardware goes on. -/
  | notModelled (mnemonic : String)
deriving DecidableEq, Repr

/-- What a transaction, and a step, answers. -/
abbrev Outcome := Host.Outcome State Fault Refusal

/-- The block right after reset (R145, R39): every register and flag at 0, idle, no sample slot written, and no event
pending. -/
def State.reset : State where
  smp := []
  scount := 0
  rangeFlag := false
  busy := false
  valid := false
  error := false
  warnAmpl := false
  wrIgnored := false
  errcode := .none
  diag := .zero
  errinfo := .zero
  regs := .zero
  winIdx := 0
  response := none
  events := []
  resets := 0

end Sys2Proof.Machine
end

