-- ==== Sys2Proof/Machine/Flags.lean ====
section
/-! DEFINITION. How the status and result registers are composed of their fields (spec/10_state.md R20 to R35).
Reserved bits read 0 in every state. -/

namespace Sys2Proof.Machine

/-- The 3-bit value of an error code (R125). -/
def ErrCode.code : ErrCode → BitVec 3
  | .none => 0
  | .shape => 1
  | .step => 2
  | .pattern => 3
  | .internal => 4

/-- The word a read of STATUS returns (R20). -/
def State.statusWord (s : State) : Word :=
  (0#7 ++ s.scount ++ 0#5 ++ s.errcode.code ++ 0#2 ++ BitVec.ofBool s.rangeFlag ++ BitVec.ofBool s.wrIgnored ++
    BitVec.ofBool s.warnAmpl ++ BitVec.ofBool s.error ++ BitVec.ofBool s.valid ++ BitVec.ofBool s.busy).cast (by decide)

/-- The word a read of DIAG returns (R31). -/
def Diag.word (d : Diag) : Word := (0#8 ++ d.maxSample ++ 0#5 ++ d.nzones ++ d.upperCount).cast (by decide)

/-- The word a read of ERRINFO returns (R32). -/
def ErrInfo.word (e : ErrInfo) : Word :=
  (0#14 ++ BitVec.ofBool e.rangeBad ++ BitVec.ofBool e.countBad ++ 0#8 ++ e.index).cast (by decide)

/-- The word a read of MSLUTSTART returns (R35). -/
def RegisterSet.mslutstart (r : RegisterSet) : Word := (0#8 ++ r.startSin90 ++ 0#8 ++ r.startSin).cast (by decide)

/-- The word `MSLUTn` (R33). -/
def RegisterSet.mslutWord (r : RegisterSet) (n : BitVec 3) : Word := r.mslut[n.toNat]'n.isLt

end Sys2Proof.Machine
end

