-- ==== Sys2Proof/Machine/Recon.lean ====
section
/-! DEFINITION. The fields of the control word, zone membership (spec/41_encode.md R106) and the reconstruction RECON
of a RegisterSet (spec/42_readback.md R119). -/

namespace Sys2Proof.Machine

/-- The width code `W_j`, bits `[2j+1 : 2j]` of the control word (R34, R119). -/
def widthCode (sel : Word) (j : Fin 4) : BitVec 2 := sel.extractLsb' (2 * j.val) 2

/-- The transition index `X1`, bits 15:8 of the control word (R34). -/
def indexX1 (sel : Word) : Byte := sel.extractLsb' 8 8

/-- The transition index `X2`, bits 23:16 of the control word (R34). -/
def indexX2 (sel : Word) : Byte := sel.extractLsb' 16 8

/-- The transition index `X3`, bits 31:24 of the control word (R34). -/
def indexX3 (sel : Word) : Byte := sel.extractLsb' 24 8

/-- `ZONE(k, X1, X2, X3)`: the zone of table position `k`, total for any three indices (R106). -/
def zone (k : Nat) (x1 x2 x3 : Byte) : Fin 4 :=
  if x3.toNat ≤ k then 3 else if x2.toNat ≤ k then 2 else if x1.toNat ≤ k then 1 else 0

/-- Table bit `t[k]`: bit `k mod 32` of word `MSLUT(k div 32)` (R33). -/
def RegisterSet.tableBit (r : RegisterSet) (k : Nat) : Bool := (r.mslut[k / 32]?.getD 0).getLsbD (k % 32)

/-- The step from sample `k` to sample `k + 1` that a RegisterSet encodes: the zone's base `W - 1`, plus the table
bit (R119). -/
def RegisterSet.delta (r : RegisterSet) (k : Nat) : Int :=
  (widthCode r.mslutsel (zone k (indexX1 r.mslutsel) (indexX2 r.mslutsel) (indexX3 r.mslutsel))).toNat - 1 +
    (r.tableBit k).toNat

/-- The reconstruction from sample `k`, whose value is `v`, over the next `n` samples: exact, with no wrap (R119). -/
def reconFrom (r : RegisterSet) : (n k : Nat) → (v : Int) → List Int
  | 0, _, v => [v]
  | n + 1, k, v => v :: reconFrom r n (k + 1) (v + r.delta k)

/-- `RECON(M, SEL, ST)`: the 256 integers a RegisterSet decodes to, from `START_SIN`, the table bits and the width
codes only, whatever the registers hold (R119). -/
def recon (r : RegisterSet) : List Int := reconFrom r Config.nDeltas 0 r.startSin.toNat

/-- `RECON(…)[k]` (R119, R120). -/
def reconAt (r : RegisterSet) (k : Nat) : Int := (recon r).getD k 0

end Sys2Proof.Machine
end

