-- ==== Sys2Proof/Machine/Encode.lean ====
section
/-! DEFINITION. The engine's function ENCODE and its stages, in the source's step order (spec/41_encode.md R96 to R113):
shape check, amplitude, delta quantizer, zone scan, table bits, packing, verification. -/

namespace Sys2Proof.Machine

/-- A `Success` outcome of ENCODE (R96). -/
structure EncodeSuccess where
  regs : RegisterSet
  upper : Byte
  nz : BitVec 3
  maxs : Byte
  warn : Bool
deriving DecidableEq, Repr

/-- An `Error` outcome of ENCODE: the fault raised, with the amplitude values computed so far (R96). -/
structure EncodeFailure where
  code : ErrCode
  index : Byte
  countBad : Bool
  rangeBad : Bool
  maxs : Byte
  warn : Bool
deriving DecidableEq, Repr

/-- The `Outcome` of ENCODE (R96). -/
inductive EncodeOutcome where
  | success (o : EncodeSuccess)
  | error (o : EncodeFailure)
deriving DecidableEq, Repr

/-! ### Step 1: shape and amplitude -/

/-- SHAPE_CHECK fails: the count is not 256, or a written value was out of range (R97). -/
def shapeBad (cnt : BitVec 9) (rng : Bool) : Bool := cnt != 256#9 || rng

/-- `maxs = max(smp[0..255])` (R98). -/
def maxSample (smp : List Byte) : Byte := smp.foldl (fun m v => if m.toNat < v.toNat then v else m) 0

/-- `warn = (maxs > 247)` (R98). -/
def amplitudeWarning (maxs : Byte) : Bool := decide (Config.amplWarnLimit < maxs.toNat)

/-! ### Step 2: the delta quantizer -/

/-- DELTAS: the exact integer differences of consecutive samples, never reduced modulo 256 (R99). -/
def deltas : List Byte → List Int
  | a :: b :: rest => ((b.toNat : Int) - a.toNat) :: deltas (b :: rest)
  | _ => []

/-- A delta the table format cannot represent: negative, or greater than 3 (R100). -/
def stepBad (d : Int) : Bool := decide (d < 0 ∨ 3 < d)

/-- STEP_CHECK: the least index, counted from `i`, of a bad delta (R100). -/
def stepFailure : List Int → (i : Nat) → Option Nat
  | [], _ => none
  | d :: ds, i => if stepBad d then some i else stepFailure ds (i + 1)

/-! ### Step 3: the transition-point detector -/

/-- `A(d)`: the mask of bases that admit a delta, bit `b` for base `b`; a delta outside 0 to 3, which never reaches
the scan, is admitted by none (R101). -/
def admissible (d : Int) : BitVec 3 :=
  if d = 0 then 0b001#3 else if d = 1 then 0b011#3 else if d = 2 then 0b110#3 else if d = 3 then 0b100#3 else 0#3

/-- `lowbit` of a 3-bit mask, applied to non-zero masks only: the lower of two admissible bases is taken (R9, R103). -/
def lowbit (m : BitVec 3) : Nat := if m.getLsbD 0 then 0 else if m.getLsbD 1 then 1 else 2

/-- A zone the scan found: its first delta index and its base (R102). -/
structure Zone where
  start : Nat
  base : Nat
deriving DecidableEq, Repr

/-- ZONE_SCAN from delta index `i` on: `closed` are the zones already closed, `start` and `m` the open zone's first
index and mask of admissible bases. It answers the zones, or the index at which a fifth zone would begin (R102 to
R104). -/
def zoneScan : List Int → (i : Nat) → (closed : List Zone) → (start : Nat) → (m : BitVec 3) → Except Nat (List Zone)
  | [], _, closed, start, m => .ok (closed ++ [⟨start, lowbit m⟩])
  | d :: ds, i, closed, start, m =>
    if m &&& admissible d = 0#3 then
      if closed.length + 1 = Config.nZones then .error i
      else zoneScan ds (i + 1) (closed ++ [⟨start, lowbit m⟩]) i (admissible d)
    else zoneScan ds (i + 1) closed start (m &&& admissible d)

/-- The zone scan of all deltas: one open zone from index 0 that admits every base (R102). -/
def scanZones (d : List Int) : Except Nat (List Zone) := zoneScan d 0 [] 0 0b111#3

/-- What FILL_ZONES answers: the transition indices and the four bases (R105). -/
structure ZonePlan where
  x1 : Byte
  x2 : Byte
  x3 : Byte
  base : Vector Nat 4
deriving DecidableEq, Repr

/-- `start[k]` after FILL_ZONES: 255 for a zone the scan did not need (R105). -/
def zoneStart (zs : List Zone) (k : Nat) : Byte :=
  match zs[k]? with
  | some z => BitVec.ofNat 8 z.start
  | none => 255#8

/-- `base[k]` after FILL_ZONES: the last found zone's base for a zone the scan did not need (R105). -/
def zoneBase (zs : List Zone) (k : Nat) : Nat :=
  match zs[k]? with
  | some z => z.base
  | none => (zs.getLast?.map Zone.base).getD 0

/-- FILL_ZONES (R105). -/
def fillZones (zs : List Zone) : ZonePlan where
  x1 := zoneStart zs 1
  x2 := zoneStart zs 2
  x3 := zoneStart zs 3
  base := #v[zoneBase zs 0, zoneBase zs 1, zoneBase zs 2, zoneBase zs 3]

/-- The base of the zone that holds table position `k` (R106, R107). -/
def ZonePlan.baseAt (p : ZonePlan) (k : Nat) : Nat := p.base[zone k p.x1 p.x2 p.x3]

/-! ### Step 4: the table bits -/

/-- The table bits of the deltas from index `i` on: 1 where the delta is its zone's upper candidate `b + 1`, which is
`delta - b` for the deltas a found zone holds (R107). -/
def upperBits (p : ZonePlan) : List Int → (i : Nat) → List Bool
  | [], _ => []
  | d :: ds, i => decide (d = p.baseAt i + 1) :: upperBits p ds (i + 1)

/-- TABLE_BITS: the 255 delta bits and the implicit trailing bit 0 (R107, R108). -/
def tableBits (p : ZonePlan) (d : List Int) : List Bool := upperBits p d 0 ++ [false]

/-- The number whose bit `b` is element `b` of the list (R109). -/
def bitsToNat : List Bool → Nat
  | [] => 0
  | b :: bs => b.toNat + 2 * bitsToNat bs

/-- `M[n]`: the table bits `32n` to `32n + 31`, least significant first (R109). -/
def packWord (t : List Bool) (n : Nat) : Word := BitVec.ofNat 32 (bitsToNat ((t.drop (32 * n)).take 32))

/-- PACK_TABLE (R109). -/
def packTable (t : List Bool) : Vector Word 8 :=
  #v[packWord t 0, packWord t 1, packWord t 2, packWord t 3, packWord t 4, packWord t 5, packWord t 6, packWord t 7]

/-! ### Steps 5 and 6: the control and start words -/

/-- The width code of a base, `W = b + 1` (R101, R105). -/
def widthOfBase (b : Nat) : BitVec 2 := BitVec.ofNat 2 (b + 1)

/-- PACK_SEL (R110). -/
def packSel (p : ZonePlan) : Word :=
  (p.x3 ++ p.x2 ++ p.x1 ++ widthOfBase p.base[3] ++ widthOfBase p.base[2] ++ widthOfBase p.base[1] ++
    widthOfBase p.base[0]).cast (by decide)

/-- The RegisterSet of a zone plan and its table bits; PACK_START keeps the first and the last sample (R109 to
R111). -/
def packRegisters (p : ZonePlan) (t : List Bool) (smp : List Byte) : RegisterSet where
  mslut := packTable t
  mslutsel := packSel p
  startSin := smp.getD 0 0
  startSin90 := smp.getD (Config.nSamples - 1) 0

/-! ### Step 7: verification -/

/-- VERIFY: the least index, counted from `k`, at which the reconstruction differs from the samples (R112). -/
def firstMismatch : List Int → List Byte → (k : Nat) → Option Nat
  | r :: rs, v :: vs, k => if r = v.toNat then firstMismatch rs vs (k + 1) else some k
  | _, _, _ => none

/-- `upper = popcount(t[0..254])` (R113). -/
def upperCount (t : List Bool) : Byte := BitVec.ofNat 8 ((t.take Config.nDeltas).count true)

/-! ### The stages in order -/

/-- A fault raised after the amplitude stage: it carries the least index and the amplitude values (R96, R127, R129,
R130). -/
def failAt (code : ErrCode) (i : Nat) (maxs : Byte) : EncodeOutcome :=
  .error { code := code, index := BitVec.ofNat 8 i, countBad := false, rangeBad := false, maxs := maxs,
           warn := amplitudeWarning maxs }

/-- The stages after the zone scan: fill, table, pack, verify (R105 to R113). -/
def packAndVerify (smp : List Byte) (d : List Int) (zs : List Zone) (maxs : Byte) : EncodeOutcome :=
  let p := fillZones zs
  let t := tableBits p d
  let regs := packRegisters p t smp
  match firstMismatch (recon regs) smp 0 with
  | some k => failAt .internal k maxs
  | none => .success { regs := regs, upper := upperCount t, nz := BitVec.ofNat 3 zs.length, maxs := maxs,
                       warn := amplitudeWarning maxs }

/-- The stages after the amplitude stage: step check, zone scan, packing (R99 to R113). -/
def quantizeAndPack (smp : List Byte) (maxs : Byte) : EncodeOutcome :=
  let d := deltas smp
  match stepFailure d 0 with
  | some i => failAt .step i maxs
  | none =>
    match scanZones d with
    | .error i => failAt .pattern i maxs
    | .ok zs => packAndVerify smp d zs maxs

/-- ENCODE: the first failing stage ends the encode (R96, R131). -/
def encodeWaveform (smp : List Byte) (cnt : BitVec 9) (rng : Bool) : EncodeOutcome :=
  if shapeBad cnt rng then
    .error { code := .shape, index := 0, countBad := cnt != 256#9, rangeBad := rng, maxs := 0, warn := false }
  else quantizeAndPack smp (maxSample smp)

end Sys2Proof.Machine
end

