-- ==== Sys2Proof/Machine/Ops.lean ====
section
/-! DEFINITION. The shared operations over the state: the sample buffer, the responses of the bus, busy gating, the
CTRL commands, the two commits of a completion (the error completion is what this block has in place of taking an
exception, and a bus error is its other exception), and reset. -/

namespace Sys2Proof.Machine

/-! ### The sample buffer -/

/-- The sample listed for a slot, if the slot has been written since the last reset. -/
def Memory.read : Memory → (k : Nat) → Option Byte
  | [], _ => none
  | (a, v) :: rest, k => if a = k then some v else Memory.read rest k

/-- The buffer with slot `k` written; the slots stay in rising order. -/
def Memory.write : Memory → (k : Nat) → (v : Byte) → Memory
  | [], k, v => [(k, v)]
  | (a, w) :: rest, k, v =>
    if k < a then (k, v) :: (a, w) :: rest else if k = a then (k, v) :: rest else (a, w) :: Memory.write rest k v

/-- Slots strictly rising from `lo` on. -/
def Memory.risingFrom : (lo : Nat) → Memory → Bool
  | _, [] => true
  | lo, (a, _) :: rest => decide (lo ≤ a) && Memory.risingFrom (a + 1) rest

/-- The canonical form of the buffer: slots strictly rising, each one of the 256 (R17). A listed slot is one that has
been written since the last reset, so equal lists are equal buffers (log entry 1). -/
def Memory.wf (m : Memory) : Bool := Memory.risingFrom 0 m && m.all (fun c => decide (c.1 < Config.nSamples))

/-- `smp[k]`: what was last written to the slot since reset, else the unspecified value that reset left in it (R17,
R145; log entry 1). The one reading of the sample buffer. -/
def State.slot (s : State) (k : Nat) : Byte := (Memory.read s.smp k).getD (Config.resetSample s.resets k)

/-- The sample buffer as the engine and the ORIG_DATA window read it: `smp[0..255]` in order (R17). -/
def State.waveform (s : State) : List Byte := (List.range Config.nSamples).map s.slot

/-! ### Responses -/

/-- The state with a transaction's response returned to the host (R68). -/
def State.respond (s : State) (r : Response) : State := { s with response := some r }

/-- The OKAY response of a read, with its data (R56). -/
def okayRead (w : Word) : Response := ⟨.okay, some w⟩

/-- The OKAY response of a write (R56). -/
def okayWrite : Response := ⟨.okay, none⟩

/-- The response of a bus error: BUSERR, read data 0 (R132). -/
def busErrorResponse : Response := ⟨.buserr, some 0⟩

/-- A read that returns `w`: it changes nothing but the response (R46). -/
def replyRead (s : State) (w : Word) : Outcome := .next (s.respond (okayRead w))

/-- A write that ends in the state `s` (R68). -/
def replyWrite (s : State) : Outcome := .next (s.respond okayWrite)

/-- `raise BusError(addr)`: BUSERR, read data 0, no state change, nothing recorded (R132). What a transaction takes in
place of an exception; there is no return from it (R136). -/
def busError (s : State) : Outcome := .next (s.respond busErrorResponse)

/-! ### Busy gating -/

/-- The ignored write is noted: `WR_IGNORED <- 1` (R25, R69). -/
def State.noteIgnored (s : State) : State := { s with wrIgnored := true }

/-- A command or input write: ignored while BUSY, else the given effect (R69). -/
def gatedWrite (s effect : State) : Outcome := replyWrite (if s.busy then s.noteIgnored else effect)

/-! ### The commands and the input ports -/

/-- An accepted START: BUSY set, VALID, ERROR, WARN_AMPL and ERRCODE cleared, nothing else (R72). -/
def State.startEncode (s : State) : State :=
  { s with busy := true, valid := false, error := false, warnAmpl := false, errcode := .none }

/-- An accepted CLEAR: SCOUNT, RANGE_FLAG and WR_IGNORED zeroed, nothing else (R29, R73). -/
def State.clearInput (s : State) : State := { s with scount := 0, rangeFlag := false, wrIgnored := false }

/-- `min(SCOUNT + 1, 257)` (R18). -/
def nextCount (c : BitVec 9) : BitVec 9 := BitVec.ofNat 9 (min (c.toNat + 1) Config.scountMax)

/-- The buffer after an accepted sample write: slot `SCOUNT` holds `WDATA[7:0]` if `SCOUNT < 256`, else nothing is
stored (R77). -/
def State.storeSample (s : State) (wdata : Word) : Memory :=
  if s.scount.toNat < Config.nSamples then Memory.write s.smp s.scount.toNat (sampleByte wdata) else s.smp

/-- An accepted sample write (R77). -/
def State.acceptSample (s : State) (wdata : Word) : State :=
  { s with rangeFlag := s.rangeFlag || sampleOutOfRange wdata, smp := s.storeSample wdata,
           scount := nextCount s.scount }

/-- A write of WIN_IDX (R89). -/
def State.selectWindow (s : State) (k : Byte) : State := { s with winIdx := k }

/-! ### The commits of a completion -/

/-- COMMIT_SUCCESS (R114). -/
def State.commitSuccess (s : State) (o : EncodeSuccess) : State :=
  { s with regs := o.regs, diag := ⟨o.upper, o.nz, o.maxs⟩, errinfo := .zero, valid := true, error := false,
           errcode := .none, warnAmpl := o.warn }

/-- COMMIT_ERROR, the error completion: the RegisterSet is zeroed, the record written, ERROR set (R128). It is the one
operation of this block that takes an exception: nothing is saved but the record, no mode changes and no handler runs
(R135); the next accepted START acknowledges it (R136). -/
def State.commitError (s : State) (o : EncodeFailure) : State :=
  { s with regs := .zero, diag := ⟨0, 0, o.maxs⟩, errinfo := ⟨o.index, o.countBad, o.rangeBad⟩, valid := false,
           error := true, errcode := o.code, warnAmpl := o.warn }

/-- The end of every completion: `BUSY <- 0` (R95). -/
def State.endEncode (s : State) : State := { s with busy := false }

/-! ### Events -/

/-- The state whose remaining events are `es`. -/
def State.withEvents (s : State) (es : List Event) : State := { s with events := es }

/-- Reset: every element at its reset value, the sample slots left at new unspecified values, and a pending encode
abandoned (R145, R147). The events that have not happened yet still lie ahead. -/
def State.assertReset (s : State) : State := { State.reset with events := s.events, resets := s.resets + 1 }

end Sys2Proof.Machine
end

