-- ==== Sys2Proof/Machine/Ctrl.lean ====
section
/-! DEFINITION. The transactions of CTRL and STATUS (spec/40_host_access.md R70 to R75). -/

namespace Sys2Proof.Machine

/-- RD_CTRL: reads 0, CTRL holds no state (R70). -/
def execRdCtrl (s : State) : Outcome := replyRead s 0

/-- WR_CTRL_NOP: no effect; the reserved bits are ignored (R71). -/
def execWrCtrlNop (_wdata : Word) (s : State) : Outcome := gatedWrite s s

/-- WR_CTRL_START (R72). -/
def execWrCtrlStart (_wdata : Word) (s : State) : Outcome := gatedWrite s s.startEncode

/-- WR_CTRL_CLEAR: whatever START holds (R73). -/
def execWrCtrlClear (_wdata : Word) (s : State) : Outcome := gatedWrite s s.clearInput

/-- RD_STATUS: it clears no bit (R74). -/
def execRdStatus (s : State) : Outcome := replyRead s s.statusWord

/-- WR_STATUS: no state change, not gated (R75). -/
def execWrStatus (_wdata : Word) (s : State) : Outcome := replyWrite s

end Sys2Proof.Machine
end

