-- ==== Sys2Proof/Machine/Illegal.lean ====
section
/-! DEFINITION. The transactions of an offset outside the map (spec/40_host_access.md R94). -/

namespace Sys2Proof.Machine

/-- BUSERR: a bus error whether it reads or writes, even while BUSY (R94, R132, R133). -/
def execBuserr (_we : Bool) (_addr : Byte) (s : State) : Outcome := busError s

end Sys2Proof.Machine
end

