-- ==== Sys2Proof/Machine/Result.lean ====
section
/-! DEFINITION. The transactions of the result registers DIAG, ERRINFO and the RegisterSet (spec/40_host_access.md R78
to R87). While BUSY they return the previous encode's words (R151). -/

namespace Sys2Proof.Machine

/-- RD_DIAG (R78). -/
def execRdDiag (s : State) : Outcome := replyRead s s.diag.word

/-- WR_DIAG: no state change (R79). -/
def execWrDiag (_wdata : Word) (s : State) : Outcome := replyWrite s

/-- RD_ERRINFO (R80). -/
def execRdErrinfo (s : State) : Outcome := replyRead s s.errinfo.word

/-- WR_ERRINFO: no state change (R81). -/
def execWrErrinfo (_wdata : Word) (s : State) : Outcome := replyWrite s

/-- RD_MSLUT: the table word `MSLUTn` (R82). -/
def execRdMslut (n : BitVec 3) (s : State) : Outcome := replyRead s (s.regs.mslutWord n)

/-- WR_MSLUT: no state change, the table is written only by the engine (R83). -/
def execWrMslut (_n : BitVec 3) (_wdata : Word) (s : State) : Outcome := replyWrite s

/-- RD_MSLUTSEL (R84). -/
def execRdMslutsel (s : State) : Outcome := replyRead s s.regs.mslutsel

/-- WR_MSLUTSEL: no state change (R85). -/
def execWrMslutsel (_wdata : Word) (s : State) : Outcome := replyWrite s

/-- RD_MSLUTSTART (R86). -/
def execRdMslutstart (s : State) : Outcome := replyRead s s.regs.mslutstart

/-- WR_MSLUTSTART: no state change (R87). -/
def execWrMslutstart (_wdata : Word) (s : State) : Outcome := replyWrite s

end Sys2Proof.Machine
end

