-- ==== Sys2Proof/Machine/Sample.lean ====
section
/-! DEFINITION. The transactions of SAMPLE_DATA (spec/40_host_access.md R76, R77). -/

namespace Sys2Proof.Machine

/-- RD_SAMPLE_DATA: reads 0 and does not advance SCOUNT (R76). -/
def execRdSampleData (s : State) : Outcome := replyRead s 0

/-- WR_SAMPLE_DATA (R77). -/
def execWrSampleData (wdata : Word) (s : State) : Outcome := gatedWrite s (s.acceptSample wdata)

end Sys2Proof.Machine
end

