-- ==== Sys2Proof/Machine/Window.lean ====
section
/-! DEFINITION. The transactions of the readback window (spec/40_host_access.md R88 to R93, spec/42_readback.md R120,
R121). None of them is gated by BUSY. -/

namespace Sys2Proof.Machine

/-- RD_WIN_IDX: bits 31:8 read 0 (R88). -/
def execRdWinIdx (s : State) : Outcome := replyRead s (zext32 s.winIdx)

/-- WR_WIN_IDX: allowed during an encode; the upper write data is ignored (R89). -/
def execWrWinIdx (wdata : Word) (s : State) : Outcome := replyWrite (s.selectWindow (windowIndex wdata))

/-- RD_RECON_DATA: the reconstruction of the registers as they stand at the read (R90, R120). -/
def execRdReconData (s : State) : Outcome := replyRead s (u32 (reconAt s.regs s.winIdx.toNat))

/-- WR_RECON_DATA: no state change (R91). -/
def execWrReconData (_wdata : Word) (s : State) : Outcome := replyWrite s

/-- RD_ORIG_DATA: the sample as stored (R92, R121); the unspecified value for a slot not written since reset. -/
def execRdOrigData (s : State) : Outcome := replyRead s (zext32 (s.slot s.winIdx.toNat))

/-- WR_ORIG_DATA: no state change (R93). -/
def execWrOrigData (_wdata : Word) (s : State) : Outcome := replyWrite s

end Sys2Proof.Machine
end

