-- ==== Sys2Proof/Machine/Dispatch.lean ====
section
/-! DEFINITION. The meaning of each transaction, one arm per constructor. -/

namespace Sys2Proof.Machine

def exec (i : Instr) (s : State) : Host.Outcome State Fault Refusal :=
  match i with
  | .rdCtrl => Sys2Proof.Machine.execRdCtrl s
  | .wrCtrlNop wdata => Sys2Proof.Machine.execWrCtrlNop wdata s
  | .wrCtrlStart wdata => Sys2Proof.Machine.execWrCtrlStart wdata s
  | .wrCtrlClear wdata => Sys2Proof.Machine.execWrCtrlClear wdata s
  | .rdStatus => Sys2Proof.Machine.execRdStatus s
  | .wrStatus wdata => Sys2Proof.Machine.execWrStatus wdata s
  | .rdSampleData => Sys2Proof.Machine.execRdSampleData s
  | .wrSampleData wdata => Sys2Proof.Machine.execWrSampleData wdata s
  | .rdDiag => Sys2Proof.Machine.execRdDiag s
  | .wrDiag wdata => Sys2Proof.Machine.execWrDiag wdata s
  | .rdErrinfo => Sys2Proof.Machine.execRdErrinfo s
  | .wrErrinfo wdata => Sys2Proof.Machine.execWrErrinfo wdata s
  | .rdMslut n => Sys2Proof.Machine.execRdMslut n s
  | .wrMslut n wdata => Sys2Proof.Machine.execWrMslut n wdata s
  | .rdMslutsel => Sys2Proof.Machine.execRdMslutsel s
  | .wrMslutsel wdata => Sys2Proof.Machine.execWrMslutsel wdata s
  | .rdMslutstart => Sys2Proof.Machine.execRdMslutstart s
  | .wrMslutstart wdata => Sys2Proof.Machine.execWrMslutstart wdata s
  | .rdWinIdx => Sys2Proof.Machine.execRdWinIdx s
  | .wrWinIdx wdata => Sys2Proof.Machine.execWrWinIdx wdata s
  | .rdReconData => Sys2Proof.Machine.execRdReconData s
  | .wrReconData wdata => Sys2Proof.Machine.execWrReconData wdata s
  | .rdOrigData => Sys2Proof.Machine.execRdOrigData s
  | .wrOrigData wdata => Sys2Proof.Machine.execWrOrigData wdata s
  | .buserr we addr => Sys2Proof.Machine.execBuserr we addr s

end Sys2Proof.Machine
end

