-- ==== Sys2Proof/Machine/Engine.lean ====
section
/-! DEFINITION. The engine's completion step COMPLETE (spec/41_encode.md R95). -/

namespace Sys2Proof.Machine

/-- The outcome of ENCODE on the state's sample buffer, SCOUNT and RANGE_FLAG, and on nothing else (R95, R115). -/
def State.encodeOutcome (s : State) : EncodeOutcome := encodeWaveform s.waveform s.scount s.rangeFlag

/-- An outcome of ENCODE written in one atomic update (R95, R114, R128). -/
def State.commit (s : State) (o : EncodeOutcome) : State :=
  match o with
  | .success o => (s.commitSuccess o).endEncode
  | .error o => (s.commitError o).endEncode

/-- COMPLETE, on a snapshot of the state at the start of the step (R12, R95). -/
def State.complete (s : State) : State := s.commit s.encodeOutcome

/-- The engine's turn: its completion step exactly when BUSY = 1; otherwise no engine step is enabled (R95). -/
def State.engineTurn (s : State) : State := if s.busy then s.complete else s

end Sys2Proof.Machine
end

