-- ==== Sys2Proof/Machine/Step.lean ====
section
/-! DEFINITION. One step of the block: the next atomic event of the total order (spec/20_memory.md R51). -/

namespace Sys2Proof.Machine

/-- One atomic event. A transaction is decoded and performed (R68); the engine's turn is its completion step where it
is enabled (R95); reset is an event of its own (R145). Where no event is left, a pending encode completes, which is
the weak fairness of R156, and an idle block keeps its state (R144). -/
def step (s : State) : Host.Outcome State Fault Refusal :=
  match s.events with
  | [] => .next s.engineTurn
  | .transaction tw :: es => exec (decode tw) (s.withEvents es)
  | .engine :: es => .next (s.withEvents es).engineTurn
  | .reset :: es => .next (s.withEvents es).assertReset

/-- The state in which the host's next transaction is the word with the bits `w`, ahead of every other event, so that
the next step performs exactly it. The block fetches nothing (R16); its transactions arrive in `State.events`. -/
def State.withFetchWord (s : State) (nbits w : Nat) : State :=
  s.withEvents (.transaction (BitVec.ofNat 41 (w % 2 ^ nbits)) :: s.events)

end Sys2Proof.Machine
end

