-- ==== Sys2Proof/Machine/Script.lean ====
section
/-! DEFINITION. The other agent: a host script as abstract data, the expansion of its pseudo-instructions, and a host
that runs it against the block one event at a time (spec/30_encoding.md R63 to R66, spec/70_reset_and_hazards.md R150,
R159). `step` does not depend on this file: the block sees only the transactions (R65). -/

namespace Sys2Proof.Machine

/-- `<REG>`: a register by name, or a raw offset `@0x..` (R64). -/
inductive Target where
  | reg (r : Register)
  | raw (addr : Byte)
deriving DecidableEq, Repr

/-- The byte offset a target stands for (R64). -/
def Target.offset : Target → Byte
  | .reg r => r.offset
  | .raw addr => addr

/-- The right side of an `expect`: a value, or another variable. DESIGN CHOICE (log entry 8): R65 gives a value only,
while the programs P1 and P2 of spec/95_test_vectors.md compare two variables, so the model takes both forms. -/
inductive HostTerm where
  | value (v : Int)
  | var (name : String)
deriving DecidableEq, Repr

/-- The statements of a script and its pseudo-instructions (R63, R65, R66). The type is wider than the spec's tables:
which statements the spec gives a form is `HostStmt.wf`. -/
inductive HostStmt where
  | rd (t : Target) (dst : Option String)
  | wr (t : Target) (value : Int)
  | label (name : String)
  | ifGoto (var : String) (bit : Nat) (value : Bool) (target : String)
  | goto (target : String)
  | expect (var : String) (term : HostTerm)
  | nop
  | start
  | clear
  | load (samples : List Int)
  | wait (dst : String)
  | readset (words : List String) (sel st : String)
  | peek (k : Int) (dst : String)
  | orig (k : Int) (dst : String)
deriving DecidableEq, Repr

/-- A host script: statements in order, and `repeat N` blocks (R63, R65). -/
inductive Script where
  | done
  | stmt (s : HostStmt) (rest : Script)
  | rep (n : Nat) (body rest : Script)
deriving DecidableEq, Repr

/-- Where a branch of the host goes: to a label, or by a number of places from where it stands (the fresh label of
`wait`, and a label of the same copy of a repeat body). -/
inductive Dest where
  | named (label : String)
  | rel (offset : Int)
deriving DecidableEq, Repr

/-- What a script is expanded to: transactions, and the host's own control flow (R65, R66). -/
inductive HostOp where
  | issue (tw : TransactionWord) (dst : Option String)
  | mark (label : String)
  | branch (var : String) (bit : Nat) (value : Bool) (dest : Dest)
  | jump (dest : Dest)
  | check (var : String) (term : HostTerm)
deriving DecidableEq, Repr

/-- A script value is in range: `-2^31` to `2^32 - 1` (R63). -/
def valueInRange (v : Int) : Bool := decide (-(2 ^ 31) ≤ v ∧ v < 2 ^ 32)

/-- The right side of an `expect` has a form the spec gives: its value is in range (R63). -/
def HostTerm.wf : HostTerm → Bool
  | .value v => valueInRange v
  | .var _ => true

/-- The statement has a form the spec gives it: values in range (R63), a bit of a 32-bit variable (R63, R65), 256 samples
of a `load`, eight table words of a `readset` (R66). What the model does with any other statement is its own choice (log
entry 8): a value is taken modulo 2^32, a bit above 31 reads 0, and `load` and `readset` take lists of any length. -/
def HostStmt.wf : HostStmt → Bool
  | .rd _ _ => true
  | .wr _ value => valueInRange value
  | .label _ => true
  | .ifGoto _ bit _ _ => decide (bit < 32)
  | .goto _ => true
  | .expect _ term => term.wf
  | .nop => true
  | .start => true
  | .clear => true
  | .load samples => decide (samples.length = Config.nSamples) && samples.all valueInRange
  | .wait _ => true
  | .readset words _ _ => decide (words.length = 8)
  | .peek k _ => valueInRange k
  | .orig k _ => valueInRange k

/-- Every statement of the script is well formed. -/
def Script.wf : Script → Bool
  | .done => true
  | .stmt s rest => s.wf && rest.wf
  | .rep _ body rest => body.wf && rest.wf

/-- One read transaction (R63). -/
def readOp (t : Target) (dst : Option String) : HostOp := .issue (transactionWord false t.offset 0) dst

/-- One write transaction; a negative value is written as `u32` of it (R63). For a value out of range, to which the spec
gives no meaning, the model writes it modulo 2^32 too (DESIGN CHOICE, log entry 8). -/
def writeOp (t : Target) (value : Int) : HostOp := .issue (transactionWord true t.offset (u32 value)) none

/-- `readset`: the eight table words into the named variables, from word `n` on (R66). With other than eight names,
which R66 does not give, each name gets a read and the word numbers go round: a ninth name reads MSLUT0 again (DESIGN
CHOICE, log entry 8). -/
def readWords : List String → (n : Nat) → List HostOp
  | [], _ => []
  | x :: xs, n => readOp (.reg (.mslut (BitVec.ofNat 3 n))) (some x) :: readWords xs (n + 1)

/-- The expansion of a statement (R66). A `load` of other than 256 values, which R66 does not give, writes as many
samples as it names, and the fresh label of `wait` is a branch back by one place (DESIGN CHOICE, log entry 8). -/
def HostStmt.expand : HostStmt → List HostOp
  | .rd t dst => [readOp t dst]
  | .wr t value => [writeOp t value]
  | .label name => [.mark name]
  | .ifGoto var bit value target => [.branch var bit value (.named target)]
  | .goto target => [.jump (.named target)]
  | .expect var term => [.check var term]
  | .nop => [writeOp (.reg .ctrl) 0]
  | .start => [writeOp (.reg .ctrl) 1]
  | .clear => [writeOp (.reg .ctrl) 2]
  | .load samples => writeOp (.reg .ctrl) 2 :: samples.map (writeOp (.reg .sampleData))
  | .wait dst => [readOp (.reg .status) (some dst), .branch dst 0 true (.rel (-1))]
  | .readset words sel st =>
      readWords words 0 ++ [readOp (.reg .mslutsel) (some sel), readOp (.reg .mslutstart) (some st)]
  | .peek k dst => [writeOp (.reg .winIdx) k, readOp (.reg .reconData) (some dst)]
  | .orig k dst => [writeOp (.reg .winIdx) k, readOp (.reg .origData) (some dst)]

/-- The place of a label in the code: its first occurrence (R65). -/
def labelPlace (code : List HostOp) (l : String) : Option Nat := code.findIdx? (· == .mark l)

/-- A destination of the operation at place `i` of a repeat body: a label of the body is the one in the same copy of it,
any other label stays a name. -/
def Dest.bind (body : List HostOp) (i : Nat) : Dest → Dest
  | .named l =>
    match labelPlace body l with
    | some j => .rel ((j : Int) - i)
    | none => .named l
  | .rel offset => .rel offset

/-- The operation at place `i` of a repeat body, its branch bound to the labels of its own copy. -/
def HostOp.bind (body : List HostOp) (i : Nat) : HostOp → HostOp
  | .issue tw dst => .issue tw dst
  | .mark l => .mark l
  | .branch x bit value d => .branch x bit value (d.bind body i)
  | .jump d => .jump (d.bind body i)
  | .check x term => .check x term

/-- One copy of a repeat body: a branch inside it to a label inside it stays in the copy, so that the body runs `N` times
whatever branches it has (R65). -/
def bindLabels (body : List HostOp) : List HostOp := body.zipIdx.map fun p => p.1.bind body p.2

/-- The code of a script; the body of a repeat block stands `N` times, each copy with its own labels (R65). -/
def Script.code : Script → List HostOp
  | .done => []
  | .stmt s rest => s.expand ++ rest.code
  | .rep n body rest => (List.replicate n (bindLabels body.code)).flatten ++ rest.code

/-- The host that runs a script: its position, its variables, whether an `expect` failed, whether it cannot go on (an
unknown label or variable), and whether an accepted START has not yet been followed by a STATUS read with BUSY = 0. -/
structure HostState where
  pos : Nat
  vars : List (String × Word)
  failed : Bool
  stuck : Bool
  awaiting : Bool
deriving DecidableEq, Repr

/-- The host at the start of a script. -/
def HostState.init : HostState := ⟨0, [], false, false, false⟩

/-- The value of a host variable. -/
def HostState.var (h : HostState) (x : String) : Option Word := h.vars.lookup x

/-- The value of the right side of an `expect` (R63, R65): a negative value is `u32` of it, and a value out of range is
taken modulo 2^32 too (DESIGN CHOICE, log entry 8). -/
def HostState.term (h : HostState) : HostTerm → Option Word
  | .value v => some (u32 v)
  | .var x => h.var x

/-- Bit `bit` of a variable's word, as `if` tests it (R65). A bit above 31, of which the spec is silent, reads 0 (DESIGN
CHOICE, log entry 8). -/
def hostBit (w : Word) (bit : Nat) : Bool := w.getLsbD bit

/-- The place a branch goes to (R65). A label that a branch outside a repeat block names inside it, of which the spec is
silent, is the one in the first copy of the body (DESIGN CHOICE, log entry 8). -/
def destination (code : List HostOp) (pos : Nat) : Dest → Option Nat
  | .named l => labelPlace code l
  | .rel offset => if 0 ≤ (pos : Int) + offset then some ((pos : Int) + offset).toNat else none

/-- The host moved to a place, or stuck where there is none. -/
def HostState.goTo (h : HostState) : Option Nat → HostState
  | some p => { h with pos := p }
  | none => { h with stuck := true }

/-- The host after a transaction's response: the variable assigned, and the START accepted or the completion seen
noted (R63, R159). -/
def HostState.receive (h : HostState) (i : Instr) (wasBusy : Bool) (dst : Option String) (r : Option Response) :
    HostState :=
  let data := r.bind Response.rdata
  { h with
    pos := h.pos + 1
    vars := match dst, data with
      | some x, some w => (x, w) :: h.vars
      | _, _ => h.vars
    awaiting := match i with
      | .wrCtrlStart _ => h.awaiting || !wasBusy
      | .rdStatus => h.awaiting && (data.getD 0).getLsbD 0
      | _ => h.awaiting }

/-- The host's own move on an operation that is no transaction (R65); a transaction is not moved by it. A branch or an
`expect` on a variable that was never assigned leaves the host stuck (DESIGN CHOICE, log entry 8). -/
def HostState.move (code : List HostOp) (h : HostState) : HostOp → HostState
  | .issue _ _ => h
  | .mark _ => { h with pos := h.pos + 1 }
  | .jump d => h.goTo (destination code h.pos d)
  | .branch x bit value d =>
    match h.var x with
    | none => { h with stuck := true }
    | some w => if hostBit w bit = value then h.goTo (destination code h.pos d) else { h with pos := h.pos + 1 }
  | .check x term =>
    match h.var x, h.term term with
    | some w, some v => { h with pos := h.pos + 1, failed := h.failed || w != v }
    | _, _ => { h with stuck := true }

/-- The host's turn: it performs the operation at its position; only a transaction touches the block (R65, R68). -/
def hostTurn (code : List HostOp) (h : HostState) (s : State) : HostState × State :=
  if h.stuck then (h, s)
  else match code[h.pos]? with
    | none => (h, s)
    | some (.issue tw dst) =>
      match exec (decode tw) s with
      | .next t => (h.receive (decode tw) s.busy dst t.response, t)
      | .fault _ => ({ h with stuck := true }, s)
      | .refused _ => ({ h with stuck := true }, s)
    | some op => (h.move code op, s)

/-- A run under a schedule: `true` is the engine's turn, `false` the host's. Every schedule is admitted (R153). -/
def runScript (code : List HostOp) : List Bool → HostState → State → HostState × State
  | [], h, s => (h, s)
  | true :: ts, h, s => runScript code ts h s.engineTurn
  | false :: ts, h, s => let (h', s') := hostTurn code h s; runScript code ts h' s'

/-- The host issues a further transaction: its own moves, of which it looks at `fuel`, lead it to one. -/
def issuesMore (code : List HostOp) : (fuel : Nat) → HostState → Bool
  | 0, _ => false
  | fuel + 1, h =>
    if h.stuck then false
    else match code[h.pos]? with
      | none => false
      | some (.issue _ _) => true
      | some op => issuesMore code fuel (h.move code op)

/-- The run has ended: the host has issued its last transaction, whatever other statements are left, and every accepted
START has been followed by a STATUS read that returned BUSY = 0 (R159). The host's own moves change no variable, so as
many of them as the code is long reach a transaction or never will. R159 speaks only of the programs of
spec/95_test_vectors.md; for a stuck host, and for one that moves for ever without a transaction, the model takes its
words as they stand: it issues no further transaction (DESIGN CHOICE, log entry 8). -/
def runEnded (code : List HostOp) (h : HostState) : Bool := !issuesMore code code.length h && !h.awaiting

end Sys2Proof.Machine
end

