-- ==== Sys2Proof/Safety.lean ====
section
/-! DEFINITION. What counts as a safe run: the invariants the spec states of the control state (spec/10_state.md R17 to
R27) and of the result registers (spec/41_encode.md R116, spec/60_exceptions.md R128), and what it means that four
zones suffice (spec/41_encode.md R102, R104). -/

namespace Sys2Proof.Machine

/-- What the spec states of the input and status state, whatever the host does. -/
structure State.ControlInv (s : State) : Prop where
  /-- The sample buffer is in its canonical form, with slots 0 to 255 only (R17). -/
  buffer : Memory.wf s.smp = true
  /-- SCOUNT is 0 to 257 (R18). -/
  count : s.scount.toNat ≤ Config.scountMax
  /-- The slots SCOUNT counts have all been written since the last reset (R97). -/
  written : ∀ k, k < s.scount.toNat → k < Config.nSamples → (Memory.read s.smp k).isSome = true
  /-- VALID is never 1 together with ERROR or BUSY (R22). -/
  valid : s.valid = true → s.error = false ∧ s.busy = false
  /-- ERROR is never 1 together with BUSY (R23). -/
  error : s.error = true → s.busy = false
  /-- ERRCODE names an error exactly while ERROR is 1 (R27, R114, R128). -/
  code : s.error = true ↔ s.errcode ≠ .none
  /-- WARN_AMPL stands only beside a completed encode (R24). -/
  warning : s.warnAmpl = true → s.valid = true ∨ s.error = true

/-- The invariants of a successful result (R116), with the counts of R113 and the filled indices of R105. -/
structure ValidResult (r : RegisterSet) (d : Diag) : Prop where
  /-- 1 to 4 zones (R102). -/
  zones : 1 ≤ d.nzones.toNat ∧ d.nzones.toNat ≤ Config.nZones
  /-- (a) No width code is %00. -/
  width : ∀ j : Fin 4, widthCode r.mslutsel j ≠ 0
  /-- (b) `1 <= X1 <= X2 <= X3`. -/
  order : 1 ≤ (indexX1 r.mslutsel).toNat ∧ (indexX1 r.mslutsel).toNat ≤ (indexX2 r.mslutsel).toNat ∧
    (indexX2 r.mslutsel).toNat ≤ (indexX3 r.mslutsel).toNat
  /-- The transition indices of the zones that were not needed are 255 (R105). -/
  unused : (d.nzones.toNat ≤ 1 → indexX1 r.mslutsel = 255) ∧ (d.nzones.toNat ≤ 2 → indexX2 r.mslutsel = 255) ∧
    (d.nzones.toNat ≤ 3 → indexX3 r.mslutsel = 255)
  /-- The transition indices of the found zones are delta indices, 0 to 254, and strictly increase (R102, R105). -/
  found : (2 ≤ d.nzones.toNat → (indexX1 r.mslutsel).toNat < Config.nDeltas) ∧
    (3 ≤ d.nzones.toNat → (indexX1 r.mslutsel).toNat < (indexX2 r.mslutsel).toNat ∧
      (indexX2 r.mslutsel).toNat < Config.nDeltas) ∧
    (4 ≤ d.nzones.toNat → (indexX2 r.mslutsel).toNat < (indexX3 r.mslutsel).toNat ∧
      (indexX3 r.mslutsel).toNat < Config.nDeltas)
  /-- (c) The zones that were not needed repeat the last found zone's width code. -/
  filled : ∀ j k : Fin 4, j.val + 1 = d.nzones.toNat → d.nzones.toNat ≤ k.val →
    widthCode r.mslutsel k = widthCode r.mslutsel j
  /-- (d) Consecutive found zones have different width codes. -/
  distinct : ∀ j k : Fin 4, j.val + 1 = k.val → k.val < d.nzones.toNat →
    widthCode r.mslutsel j ≠ widthCode r.mslutsel k
  /-- (e) The trailing bit is 0. -/
  trailing : r.tableBit 255 = false
  /-- (f) The registers lead from the first sample to the last. -/
  last : reconAt r 255 = r.startSin90.toNat
  /-- (g) UPPER_COUNT is the number of set table bits. -/
  upper : d.upperCount.toNat = (List.range 256).countP r.tableBit
  /-- (h) The waveform is non-decreasing. -/
  ends : r.startSin.toNat ≤ r.startSin90.toNat

/-- The result registers are empty: the reset state and what an error completion leaves (R33 to R35, R128). -/
def EmptyResult (r : RegisterSet) (d : Diag) : Prop := r = .zero ∧ d.upperCount = 0 ∧ d.nzones = 0

/-- What the spec states of the result state, whatever the host does. -/
structure State.ResultInv (s : State) : Prop where
  /-- The registers hold a whole result or nothing: there is no partial output (R114, R128). -/
  whole : EmptyResult s.regs s.diag ∨ ValidResult s.regs s.diag
  /-- VALID: the registers hold the last encode's verified result, and the error record is clear (R22, R32). -/
  valid : s.valid = true → ValidResult s.regs s.diag ∧ s.errinfo = .zero
  /-- ERROR: no register of an earlier result survives (R128). -/
  error : s.error = true → EmptyResult s.regs s.diag
  /-- WARN_AMPL is the warning for DIAG.MAXSAMPLE (R98, R126). -/
  warning : s.valid = true ∨ s.error = true → s.warnAmpl = amplitudeWarning s.diag.maxSample
  /-- The error record names a shape cause exactly after a SHAPE error (R32, R126). -/
  shape : s.error = true → (s.errcode = .shape ↔ s.errinfo.countBad = true ∨ s.errinfo.rangeBad = true)

/-- A state of a safe run. -/
def State.Safe (s : State) : Prop := s.ControlInv ∧ s.ResultInv

/-- A sequence of deltas can be cut into at most four consecutive runs, each of which has one base `b` with every
delta of the run equal to `b` or `b + 1` (R101, R102). -/
def FourRunsCover (d : List Int) : Prop :=
  ∃ (x1 x2 x3 : Nat) (b0 b1 b2 b3 : Int), x1 ≤ x2 ∧ x2 ≤ x3 ∧
    ∀ (i : Nat) (v : Int), d[i]? = some v →
      let b := if x3 ≤ i then b3 else if x2 ≤ i then b2 else if x1 ≤ i then b1 else b0
      v = b ∨ v = b + 1

/-- The base `b` admits every delta from index `lo` up to, not including, index `hi`: each is `b` or `b + 1` (R101). -/
def BaseCovers (d : List Int) (lo hi b : Nat) : Prop :=
  ∀ (i : Nat) (v : Int), lo ≤ i → i < hi → d[i]? = some v → v = b ∨ v = b + 1

end Sys2Proof.Machine
end

