-- ==== Sys2Proof/Certificates/Slice0/Obligations.lean ====
section
/-! DEFINITION. The statements for the provers. Each docstring names the rule of spec/ the statement formalises. -/

open Sys2Proof Sys2Proof.Machine

/-! ### Encoding -/

/-- R56, R57, R58: every well-formed transaction is what its word decodes to, with every operand at every value. -/
def Obligations.DecodeOfEncodeIsTheTransaction : Prop := ∀ i : Instr, i.wf = true → decode (encode i) = i

/-- R57, R58: every 41-bit word decodes to a well-formed transaction, whose word is that word, but that the write data
of a read is written 0, its canonical spelling. That the write data of a write to an offset outside the map is written
0 too is the model's choice (log entry 5, DEDUCED). -/
def Obligations.EncodeOfDecodeIsTheCanonicalWord : Prop :=
  ∀ tw : TransactionWord, (decode tw).wf = true ∧
    encode (decode tw) = transactionWord tw.we tw.addr (if tw.we && mapped tw.addr then tw.wdata else 0)

/-- R57: the decoder does not look at the WDATA of a read. -/
def Obligations.ReadWordsIgnoreWriteData : Prop :=
  ∀ (addr : Byte) (wdata : Word), decode (transactionWord false addr wdata) = decode (transactionWord false addr 0)

/-- R59: the match and mask table and the decoder agree on every word, and the rows but BUSERR are disjoint. -/
def Obligations.DecodeIsTheMatchAndMaskTable : Prop :=
  (∀ tw : TransactionWord, tableMnemonic tw = (decode tw).mnemonic) ∧
    ∀ tw : TransactionWord, (opcodeTable.filter (·.matches tw)).length ≤ 1

/-- R67: the encoding examples. -/
def Obligations.ExampleWordsDecode : Prop :=
  decode 0x00400000000 = .rdStatus ∧ decode 0x10800000064 = .wrSampleData 100 ∧
  decode 0x10000000001 = .wrCtrlStart 1 ∧ decode 0x10000000002 = .wrCtrlClear 2 ∧
  decode 0x02C00000000 = .rdMslut 3 ∧ decode 0x15000000007 = .wrWinIdx 7 ∧
  decode 0x00600000000 = .buserr false 0x06 ∧
  encode .rdStatus = 0x00400000000 ∧ encode (.wrSampleData 100) = 0x10800000064 ∧
  encode (.wrCtrlStart 1) = 0x10000000001 ∧ encode (.wrCtrlClear 2) = 0x10000000002 ∧
  encode (.rdMslut 3) = 0x02C00000000 ∧ encode (.wrWinIdx 7) = 0x15000000007

/-- R44, R49, R94: BUSERR is the row of exactly the misaligned offsets and the listed reserved aligned offsets. -/
def Obligations.BusErrorRowIsTheOffsetsOutsideTheMap : Prop :=
  ∀ tw : TransactionWord, decode tw = .buserr tw.we tw.addr ↔
    (tw.addr.extractLsb' 0 2 ≠ 0#2 ∨
      tw.addr ∈ ([0x14, 0x18, 0x1C, 0x48, 0x4C, 0x5C] : List Byte) ∨ 0x60 ≤ tw.addr.toNat)

/-- R66: what the pseudo-instructions expand to, as transaction words, where their values are in range and their lists of
the length R66 gives (`HostStmt.wf`); a `load` is 257 of them. That `wait`
branches back by one place, where R66 has a fresh label, is the model's choice (log entry 8, DESIGN CHOICE). -/
def Obligations.PseudoInstructionsExpand : Prop :=
  HostStmt.nop.expand = [.issue 0x10000000000 none] ∧
  HostStmt.start.expand = [.issue 0x10000000001 none] ∧
  HostStmt.clear.expand = [.issue 0x10000000002 none] ∧
  (∀ vs : List Int, (HostStmt.load vs).wf = true →
    (HostStmt.load vs).expand = .issue 0x10000000002 none ::
      vs.map (fun v => .issue (transactionWord true 0x08 (BitVec.ofInt 32 v)) none) ∧
    (HostStmt.load vs).expand.length = 257) ∧
  (∀ s : String, (HostStmt.wait s).expand = [.issue 0x00400000000 (some s), .branch s 0 true (.rel (-1))]) ∧
  (∀ m0 m1 m2 m3 m4 m5 m6 m7 sel st : String,
    (HostStmt.readset [m0, m1, m2, m3, m4, m5, m6, m7] sel st).expand =
      [.issue 0x02000000000 (some m0), .issue 0x02400000000 (some m1), .issue 0x02800000000 (some m2),
       .issue 0x02C00000000 (some m3), .issue 0x03000000000 (some m4), .issue 0x03400000000 (some m5),
       .issue 0x03800000000 (some m6), .issue 0x03C00000000 (some m7), .issue 0x04000000000 (some sel),
       .issue 0x04400000000 (some st)]) ∧
  (∀ (k : Int) (r : String), (HostStmt.peek k r).wf = true → (HostStmt.peek k r).expand =
    [.issue (transactionWord true 0x50 (BitVec.ofInt 32 k)) none, .issue 0x05400000000 (some r)]) ∧
  (∀ (k : Int) (o : String), (HostStmt.orig k o).wf = true → (HostStmt.orig k o).expand =
    [.issue (transactionWord true 0x50 (BitVec.ofInt 32 k)) none, .issue 0x05800000000 (some o)])

/-! ### The step -/

/-- R68: when the next event is a transaction word, the step performs the well-formed transaction the word decodes to,
on the state from which the event is taken, with nothing else around it. -/
def Obligations.StepPerformsTheDecodedTransaction : Prop :=
  ∀ (s : State) (tw : TransactionWord) (es : List Event), s.events = .transaction tw :: es →
    (decode tw).wf = true ∧ step s = exec (decode tw) { s with events := es }

/-- R95, R144, R156: on the engine's turn, and when no event is left, the step is the completion step if BUSY = 1; if
BUSY = 0 the block keeps its state. That a pending encode completes when no event is left is log entry 3. -/
def Obligations.StepCompletesAPendingEncode : Prop :=
  ∀ (s : State) (es : List Event), s.events = .engine :: es ∨ (s.events = [] ∧ es = []) →
    (s.busy = true → step s = .next { s with events := es }.complete) ∧
    (s.busy = false → step s = .next { s with events := es })

/-- R145, R147: a reset takes every element to its reset value, whatever was pending, and leaves every sample slot at an
unspecified value, one of its own for each reset. -/
def Obligations.ResetRestoresEveryElement : Prop :=
  ∀ (s : State) (es : List Event), s.events = .reset :: es →
    ∃ t, step s = .next t ∧ t.statusWord = 0 ∧ t.scount = 0 ∧ t.rangeFlag = false ∧ t.busy = false ∧ t.valid = false ∧
      t.error = false ∧ t.warnAmpl = false ∧ t.wrIgnored = false ∧ t.errcode = .none ∧ t.diag.word = 0 ∧
      t.errinfo.word = 0 ∧ (∀ n, t.regs.mslutWord n = 0) ∧ t.regs.mslutsel = 0 ∧ t.regs.mslutstart = 0 ∧
      t.winIdx = 0 ∧ t.events = es ∧ ∀ k, t.slot k = Config.resetSample (s.resets + 1) k

/-- R146: right after reset, in the state the machine starts in and in the state that a reset event leaves from any
state, a read of STATUS and of every RegisterSet register returns 0, RECON_DATA reads the two's complement of minus the
window index, and an encode started with no samples written ends in SHAPE with COUNT_BAD. -/
def Obligations.StateAfterReset : Prop :=
  ∀ r : State, (r = State.reset ∨ ∃ (s : State) (es : List Event), s.events = .reset :: es ∧ step s = .next r) →
    (∀ n, ∀ i ∈ [Instr.rdStatus, .rdMslut n, .rdMslutsel, .rdMslutstart],
      exec i r = .next { r with response := some ⟨.okay, some 0⟩ }) ∧
    (∀ w : Word, ∃ u, exec (.wrWinIdx w) r = .next u ∧
      exec .rdReconData u = .next { u with response := some ⟨.okay, some (-(w.extractLsb' 0 8).zeroExtend 32)⟩ }) ∧
    ∃ t, Host.Core.run core 2 { r with events := [.transaction 0x10000000001, .engine] } = .next t ∧
      t.statusWord = 0x00000104 ∧ t.errinfo.word = 0x00010000 ∧ t.diag.word = 0

/-- R68, R11: no step stops. -/
def Obligations.StepAlwaysAnswersNext : Prop := ∀ s : State, ∃ t, step s = .next t

/-! ### The transactions -/

/-- R70, R76: a read of a write-only register returns 0 and changes nothing, at any BUSY. -/
def Obligations.ReadsOfWriteOnlyRegistersReturnZero : Prop :=
  ∀ (s : State) (w : Word),
    decode (transactionWord false 0x00 w) = .rdCtrl ∧
    exec .rdCtrl s = .next { s with response := some ⟨.okay, some 0⟩ } ∧
    decode (transactionWord false 0x08 w) = .rdSampleData ∧
    exec .rdSampleData s = .next { s with response := some ⟨.okay, some 0⟩ }

/-- R75, R79, R81, R83, R85, R87, R91, R93: a write to a read-only register returns OKAY and changes nothing, whatever
the write data and at any BUSY. -/
def Obligations.WritesToReadOnlyRegistersHaveNoEffect : Prop :=
  ∀ (s : State) (w : Word) (n : BitVec 3),
    decode (transactionWord true (0x20 + 4 * n.zeroExtend 8) w) = .wrMslut n w ∧
    exec (.wrMslut n w) s = .next { s with response := some ⟨.okay, none⟩ } ∧
    ∀ p ∈ ([(0x04, .wrStatus w), (0x0C, .wrDiag w), (0x10, .wrErrinfo w), (0x40, .wrMslutsel w),
            (0x44, .wrMslutstart w), (0x54, .wrReconData w), (0x58, .wrOrigData w)] : List (Byte × Instr)),
      decode (transactionWord true p.1 w) = p.2 ∧ exec p.2 s = .next { s with response := some ⟨.okay, none⟩ }

/-- R20, R74: a read of STATUS returns every flag at its bit, the error code by its number in the table of R125,
reserved bits 0, and clears nothing; a write to STATUS changes nothing; the register is 0 after reset. -/
def Obligations.StatusReadShowsEveryFlag : Prop :=
  (∀ (s : State) (v : Word), decode (transactionWord false 0x04 v) = .rdStatus ∧
    ∃ w : Word, exec .rdStatus s = .next { s with response := some ⟨.okay, some w⟩ } ∧
      w.getLsbD 0 = s.busy ∧ w.getLsbD 1 = s.valid ∧ w.getLsbD 2 = s.error ∧ w.getLsbD 3 = s.warnAmpl ∧
      w.getLsbD 4 = s.wrIgnored ∧ w.getLsbD 5 = s.rangeFlag ∧ w.extractLsb' 6 2 = 0#2 ∧
      w.extractLsb' 8 3 = (match s.errcode with
        | .none => 0#3 | .shape => 1#3 | .step => 2#3 | .pattern => 3#3 | .internal => 4#3) ∧
      w.extractLsb' 11 5 = 0#5 ∧ w.extractLsb' 16 9 = s.scount ∧
      w.extractLsb' 25 7 = 0#7) ∧
  (∀ (s : State) (v : Word), exec (.wrStatus v) s = .next { s with response := some ⟨.okay, none⟩ }) ∧
  State.reset.statusWord = 0

/-- R78, R80, with the fields of R31 and R32: reads of DIAG and ERRINFO return every field at its bits, reserved bits
0, and change nothing. -/
def Obligations.DiagnosticReadsShowTheRecord : Prop :=
  ∀ (s : State) (v : Word),
    (decode (transactionWord false 0x0C v) = .rdDiag ∧
      ∃ w : Word, exec .rdDiag s = .next { s with response := some ⟨.okay, some w⟩ } ∧
        w.extractLsb' 0 8 = s.diag.upperCount ∧ w.extractLsb' 8 3 = s.diag.nzones ∧ w.extractLsb' 11 5 = 0#5 ∧
        w.extractLsb' 16 8 = s.diag.maxSample ∧ w.extractLsb' 24 8 = 0#8) ∧
    (decode (transactionWord false 0x10 v) = .rdErrinfo ∧
      ∃ w : Word, exec .rdErrinfo s = .next { s with response := some ⟨.okay, some w⟩ } ∧
        w.extractLsb' 0 8 = s.errinfo.index ∧ w.extractLsb' 8 8 = 0#8 ∧ w.getLsbD 16 = s.errinfo.countBad ∧
        w.getLsbD 17 = s.errinfo.rangeBad ∧ w.extractLsb' 18 14 = 0#14)

/-- R82, R84, R86, with the fields of R33 to R35: reads of the RegisterSet return the table word `n`, the control word,
and the start word with its two samples and its reserved bits 0; they change nothing. -/
def Obligations.RegisterSetReads : Prop :=
  ∀ (s : State) (v : Word) (n : BitVec 3),
    (decode (transactionWord false (0x20 + 4 * n.zeroExtend 8) v) = .rdMslut n ∧
      ∃ w : Word, s.regs.mslut[n.toNat]? = some w ∧
        exec (.rdMslut n) s = .next { s with response := some ⟨.okay, some w⟩ }) ∧
    (decode (transactionWord false 0x40 v) = .rdMslutsel ∧
      exec .rdMslutsel s = .next { s with response := some ⟨.okay, some s.regs.mslutsel⟩ }) ∧
    (decode (transactionWord false 0x44 v) = .rdMslutstart ∧
      ∃ w : Word, exec .rdMslutstart s = .next { s with response := some ⟨.okay, some w⟩ } ∧
        w.extractLsb' 0 8 = s.regs.startSin ∧ w.extractLsb' 8 8 = 0#8 ∧ w.extractLsb' 16 8 = s.regs.startSin90 ∧
        w.extractLsb' 24 8 = 0#8)

/-- R88, R89: WR_WIN_IDX writes `WDATA[7:0]` and nothing else, at any BUSY; RD_WIN_IDX returns the index with bits 31:8
at 0; a write is visible to the very next read. -/
def Obligations.WindowIndexWriteThenRead : Prop :=
  ∀ (s : State) (v w : Word),
    decode (transactionWord true 0x50 w) = .wrWinIdx w ∧ decode (transactionWord false 0x50 v) = .rdWinIdx ∧
    exec (.wrWinIdx w) s = .next { s with winIdx := w.extractLsb' 0 8, response := some ⟨.okay, none⟩ } ∧
    exec .rdWinIdx s = .next { s with response := some ⟨.okay, some (s.winIdx.zeroExtend 32)⟩ } ∧
    ∃ t, exec (.wrWinIdx w) s = .next t ∧
      exec .rdWinIdx t = .next { t with response := some ⟨.okay, some (w &&& 0xFF)⟩ }

/-- R119, R120, R90: RD_RECON_DATA returns, as 32-bit two's complement, value `WIN_IDX` of the sequence that starts at
START_SIN and whose step `k` is the base of the zone of `k` plus table bit `k`, all taken from the registers as they
stand; it changes nothing. -/
def Obligations.ReconstructionWindowDecodesTheRegisters : Prop :=
  ∀ (s : State) (v : Word), decode (transactionWord false 0x54 v) = .rdReconData ∧
    ∃ r : Nat → Int,
      r 0 = s.regs.startSin.toNat ∧
      (∀ k, k < 255 →
        let sel := s.regs.mslutsel
        let z := if (sel.extractLsb' 24 8).toNat ≤ k then 3 else if (sel.extractLsb' 16 8).toNat ≤ k then 2
          else if (sel.extractLsb' 8 8).toNat ≤ k then 1 else 0
        r (k + 1) = r k + ((sel.extractLsb' (2 * z) 2).toNat - 1) +
          ((s.regs.mslutWord (BitVec.ofNat 3 (k / 32))).getLsbD (k % 32)).toNat) ∧
      exec .rdReconData s =
        .next { s with response := some ⟨.okay, some (BitVec.ofInt 32 (r s.winIdx.toNat))⟩ }

/-- R92, R121: RD_ORIG_DATA returns the zero-extended sample in slot WIN_IDX and changes nothing: what was written to
the slot, and for a slot not written since reset the unspecified value that reset left in it. That this value is
`Config.resetSample` of the reset's number and the slot is the model's choice (log entry 1, DESIGN CHOICE). -/
def Obligations.OriginalWindowReadsTheSlot : Prop :=
  ∀ (s : State) (v : Word), decode (transactionWord false 0x58 v) = .rdOrigData ∧
    exec .rdOrigData s = .next { s with response := some ⟨.okay, some ((s.slot s.winIdx.toNat).zeroExtend 32)⟩ } ∧
    (∀ b, Memory.read s.smp s.winIdx.toNat = some b → s.slot s.winIdx.toNat = b) ∧
    (Memory.read s.smp s.winIdx.toNat = none → s.slot s.winIdx.toNat = Config.resetSample s.resets s.winIdx.toNat)

/-- R71, R72, R73 (and R29): what a write of CTRL does, by its bits 1:0. While BUSY = 1 it is ignored; while BUSY = 0
NOP does nothing, START sets BUSY and clears the outcome flags, CLEAR zeroes the input state, and nothing else changes.
CLEAR wins over START, and the reserved bits are ignored. -/
def Obligations.ControlWritesDoTheirCommand : Prop :=
  ∀ (s : State) (w : Word),
    (w.extractLsb' 0 2 = 0b00#2 → decode (transactionWord true 0x00 w) = .wrCtrlNop w ∧
      (s.busy = true →
        exec (.wrCtrlNop w) s = .next { s with wrIgnored := true, response := some ⟨.okay, none⟩ }) ∧
      (s.busy = false → exec (.wrCtrlNop w) s = .next { s with response := some ⟨.okay, none⟩ })) ∧
    (w.extractLsb' 0 2 = 0b01#2 → decode (transactionWord true 0x00 w) = .wrCtrlStart w ∧
      (s.busy = true →
        exec (.wrCtrlStart w) s = .next { s with wrIgnored := true, response := some ⟨.okay, none⟩ }) ∧
      (s.busy = false → exec (.wrCtrlStart w) s = .next { s with
        busy := true, valid := false, error := false, warnAmpl := false, errcode := .none,
        response := some ⟨.okay, none⟩ })) ∧
    (w.getLsbD 1 = true → decode (transactionWord true 0x00 w) = .wrCtrlClear w ∧
      (s.busy = true →
        exec (.wrCtrlClear w) s = .next { s with wrIgnored := true, response := some ⟨.okay, none⟩ }) ∧
      (s.busy = false → exec (.wrCtrlClear w) s = .next { s with
        scount := 0, rangeFlag := false, wrIgnored := false, response := some ⟨.okay, none⟩ }))

/-- R77: a sample write. While BUSY = 1 it is ignored. While BUSY = 0 it stores `WDATA[7:0]` in slot SCOUNT if
SCOUNT < 256 and leaves every other slot alone, sets RANGE_FLAG if the signed datum is outside [0, 255] and never clears
it, advances SCOUNT up to 257, and changes nothing else. -/
def Obligations.SampleWriteFillsTheNextSlot : Prop :=
  ∀ (s : State) (w : Word),
    decode (transactionWord true 0x08 w) = .wrSampleData w ∧
    (s.busy = true →
      exec (.wrSampleData w) s = .next { s with wrIgnored := true, response := some ⟨.okay, none⟩ }) ∧
    (s.busy = false →
      ∃ t, exec (.wrSampleData w) s = .next t ∧
        t = { s with smp := t.smp, scount := t.scount, rangeFlag := t.rangeFlag, response := some ⟨.okay, none⟩ } ∧
        t.scount.toNat = min (s.scount.toNat + 1) 257 ∧
        (t.rangeFlag = true ↔ s.rangeFlag = true ∨ ¬(0 ≤ w.toInt ∧ w.toInt ≤ 255)) ∧
        ∀ k, t.slot k = if k = s.scount.toNat ∧ k < 256 then w.extractLsb' 0 8 else s.slot k)

/-- R69: while BUSY = 1 the four command and input rows set WR_IGNORED, return OKAY and change nothing else; every other
row has the same effect on the state whether BUSY is 0 or 1, and every one but RD_STATUS, which shows BUSY, returns the
same response. -/
def Obligations.BusyGatesExactlyFourRows : Prop :=
  (∀ (s : State) (w : Word), s.busy = true →
    ∀ i ∈ [Instr.wrCtrlNop w, .wrCtrlStart w, .wrCtrlClear w, .wrSampleData w],
      exec i s = .next { s with wrIgnored := true, response := some ⟨.okay, none⟩ }) ∧
  ∀ (i : Instr) (s t : State) (b : Bool),
    (∀ w, i ≠ .wrCtrlNop w ∧ i ≠ .wrCtrlStart w ∧ i ≠ .wrCtrlClear w ∧ i ≠ .wrSampleData w) →
    exec i s = .next t →
    ∃ u, exec i { s with busy := b } = .next u ∧ u = { t with busy := b, response := u.response } ∧
      (i ≠ .rdStatus → u.response = t.response)

/-- R94, R132, R133: a transaction outside the map returns BUSERR with read data 0 and changes nothing, whatever it
writes and even while BUSY. -/
def Obligations.BusErrorChangesNothing : Prop :=
  ∀ (s : State) (we : Bool) (addr : Byte),
    exec (.buserr we addr) s = .next { s with response := some ⟨.buserr, some 0⟩ } ∧
    ∀ w : Word, addr.extractLsb' 0 2 ≠ 0#2 ∨ addr ∈ ([0x14, 0x18, 0x1C, 0x48, 0x4C, 0x5C] : List Byte) ∨
        0x60 ≤ addr.toNat →
      exec (decode (transactionWord we addr w)) s = .next { s with response := some ⟨.buserr, some 0⟩ }

/-! ### Whole-machine rules -/

/-- R46: a read of any offset, mapped or not, changes nothing but the response, and a second read of the same offset
returns the same word. -/
def Obligations.ReadsHaveNoSideEffects : Prop :=
  ∀ (s t : State) (addr : Byte) (v w : Word), exec (decode (transactionWord false addr v)) s = .next t →
    t = { s with response := t.response } ∧ exec (decode (transactionWord false addr w)) t = .next t

/-- R33, R34, R35, R31, R32: no transaction of the host changes a RegisterSet register, DIAG or ERRINFO. -/
def Obligations.NoTransactionChangesTheResults : Prop :=
  ∀ (i : Instr) (s t : State), exec i s = .next t → t.regs = s.regs ∧ t.diag = s.diag ∧ t.errinfo = s.errinfo

/-- R18: how SCOUNT changes over any step. -/
def Obligations.SampleCountHistory : Prop :=
  ∀ s t : State, step s = .next t →
    match s.events with
    | [] => t.scount = s.scount
    | .engine :: _ => t.scount = s.scount
    | .reset :: _ => t.scount = 0
    | .transaction tw :: _ =>
      if s.busy = false ∧ tw.we = true ∧ tw.addr = 0x08 then t.scount.toNat = min (s.scount.toNat + 1) 257
      else if s.busy = false ∧ tw.we = true ∧ tw.addr = 0x00 ∧ tw.wdata.getLsbD 1 = true then t.scount = 0
      else t.scount = s.scount

/-- R19: how RANGE_FLAG changes over any step: set by an accepted sample write whose signed datum is outside [0, 255],
never cleared by one, cleared by an accepted CLEAR and by reset. -/
def Obligations.RangeFlagHistory : Prop :=
  ∀ s t : State, step s = .next t →
    match s.events with
    | [] => t.rangeFlag = s.rangeFlag
    | .engine :: _ => t.rangeFlag = s.rangeFlag
    | .reset :: _ => t.rangeFlag = false
    | .transaction tw :: _ =>
      if s.busy = false ∧ tw.we = true ∧ tw.addr = 0x08 then
        (t.rangeFlag = true ↔ s.rangeFlag = true ∨ tw.wdata.toInt < 0 ∨ 255 < tw.wdata.toInt)
      else if s.busy = false ∧ tw.we = true ∧ tw.addr = 0x00 ∧ tw.wdata.getLsbD 1 = true then t.rangeFlag = false
      else t.rangeFlag = s.rangeFlag

/-- R21: how BUSY changes over any step: set by an accepted START, cleared by the completion step and by reset. That a
step with no event left is the completion step, so that it ends with BUSY = 0, is the model's choice (log entry 3, DESIGN
CHOICE: the weak fairness of R156). -/
def Obligations.BusyHistory : Prop :=
  ∀ s t : State, step s = .next t →
    match s.events with
    | [] => t.busy = false
    | .engine :: _ => t.busy = false
    | .reset :: _ => t.busy = false
    | .transaction tw :: _ =>
      (t.busy = true ↔ s.busy = true ∨
        (tw.we = true ∧ tw.addr = 0x00 ∧ tw.wdata.getLsbD 0 = true ∧ tw.wdata.getLsbD 1 = false))

/-- R25: how WR_IGNORED changes over any step: set by any write to CTRL or SAMPLE_DATA while BUSY = 1, cleared by an
accepted CLEAR and by reset, and by nothing else. -/
def Obligations.WriteIgnoredHistory : Prop :=
  ∀ s t : State, step s = .next t →
    match s.events with
    | [] => t.wrIgnored = s.wrIgnored
    | .engine :: _ => t.wrIgnored = s.wrIgnored
    | .reset :: _ => t.wrIgnored = false
    | .transaction tw :: _ =>
      if s.busy = true ∧ tw.we = true ∧ (tw.addr = 0x00 ∨ tw.addr = 0x08) then t.wrIgnored = true
      else if s.busy = false ∧ tw.we = true ∧ tw.addr = 0x00 ∧ tw.wdata.getLsbD 1 = true then t.wrIgnored = false
      else t.wrIgnored = s.wrIgnored

/-- R36: WIN_IDX changes only by a write of it, at any BUSY, and by reset. -/
def Obligations.WindowIndexHistory : Prop :=
  ∀ s t : State, step s = .next t →
    match s.events with
    | [] => t.winIdx = s.winIdx
    | .engine :: _ => t.winIdx = s.winIdx
    | .reset :: _ => t.winIdx = 0
    | .transaction tw :: _ =>
      if tw.we = true ∧ tw.addr = 0x50 then t.winIdx = tw.wdata.extractLsb' 0 8 else t.winIdx = s.winIdx

/-- R22, R23, R24, R27: a transaction changes VALID, ERROR, WARN_AMPL and ERRCODE only by an accepted START, which
clears all four. -/
def Obligations.OnlyStartClearsTheOutcomeFlags : Prop :=
  ∀ (s t : State) (tw : TransactionWord) (es : List Event), s.events = .transaction tw :: es → step s = .next t →
    if s.busy = false ∧ tw.we = true ∧ tw.addr = 0x00 ∧ tw.wdata.extractLsb' 0 2 = 0b01#2 then
      t.valid = false ∧ t.error = false ∧ t.warnAmpl = false ∧ t.errcode = .none
    else t.valid = s.valid ∧ t.error = s.error ∧ t.warnAmpl = s.warnAmpl ∧ t.errcode = s.errcode

/-- R54: while an encode is pending no sequence of transactions changes what the encode sees, so its outcome is the one
it had when START was accepted, however many transactions fall before the completion step. -/
def Obligations.PendingEncodeSeesTheBufferOfItsStart : Prop :=
  ∀ (s : State) (tws : List TransactionWord), s.busy = true → s.events = tws.map .transaction →
    ∃ t, Host.Core.run core tws.length s = .next t ∧ t.busy = true ∧ (∀ k, t.slot k = s.slot k) ∧
      t.scount = s.scount ∧ t.rangeFlag = s.rangeFlag ∧ t.encodeOutcome = s.encodeOutcome

/-- R153: a sample write after START without waiting has both outcomes: ignored where the completion falls after it,
performed where the completion falls before it (slot, RANGE_FLAG and SCOUNT as R77 says); the result of the encode is
the same. -/
def Obligations.CompletionFallsOnEitherSideOfAWrite : Prop :=
  ∀ (s : State) (w : Word), s.busy = true →
    ∃ t u, Host.Core.run core 2 { s with events := [.transaction (encode (.wrSampleData w)), .engine] } = .next t ∧
      Host.Core.run core 2 { s with events := [.engine, .transaction (encode (.wrSampleData w))] } = .next u ∧
      t.wrIgnored = true ∧ t.scount = s.scount ∧ t.smp = s.smp ∧ t.rangeFlag = s.rangeFlag ∧
      (∀ k, t.slot k = s.slot k) ∧
      u.wrIgnored = s.wrIgnored ∧ u.scount.toNat = min (s.scount.toNat + 1) 257 ∧
      (u.rangeFlag = true ↔ s.rangeFlag = true ∨ w.toInt < 0 ∨ 255 < w.toInt) ∧
      (∀ k, u.slot k = if k = s.scount.toNat ∧ k < 256 then w.extractLsb' 0 8 else s.slot k) ∧
      (256 ≤ s.scount.toNat → u.smp = s.smp) ∧
      t.regs = u.regs ∧ t.diag = u.diag ∧ t.errinfo = u.errinfo ∧ t.valid = u.valid ∧ t.error = u.error ∧
      t.errcode = u.errcode ∧ t.warnAmpl = u.warnAmpl ∧ t.busy = false ∧ u.busy = false

/-- R153: a CTRL write and a STATUS read after START without waiting have both outcomes. Where the completion falls
after it, the CTRL write is ignored and noted, and the read shows BUSY = 1; where the completion falls before it, the
CTRL write does its command on the completed state, and the read shows BUSY = 0. -/
def Obligations.CompletionFallsOnEitherSideOfACommandOrAStatusRead : Prop :=
  ∀ s : State, s.busy = true →
    let c := { s.complete with events := [], response := some ⟨.okay, none⟩ }
    (∀ w : Word,
      Host.Core.run core 2 { s with events := [.transaction (transactionWord true 0x00 w), .engine] } =
        .next { c with wrIgnored := true } ∧
      Host.Core.run core 2 { s with events := [.engine, .transaction (transactionWord true 0x00 w)] } =
        .next (if w.getLsbD 1 then { c with scount := 0, rangeFlag := false, wrIgnored := false }
          else if w.getLsbD 0 then
            { c with busy := true, valid := false, error := false, warnAmpl := false, errcode := .none }
          else c)) ∧
    ∃ a b : Word, a.getLsbD 0 = true ∧ b.getLsbD 0 = false ∧
      Host.Core.run core 2 { s with events := [.transaction (encode .rdStatus), .engine] } =
        .next { c with response := some ⟨.okay, some a⟩ } ∧
      Host.Core.run core 2 { s with events := [.engine, .transaction (encode .rdStatus)] } =
        .next { c with response := some ⟨.okay, some b⟩ }

/-- R52, R151: once BUSY = 0, all results stay until the next START, whatever other transactions and engine turns come;
and the RegisterSet, DIAG and ERRINFO stay beyond it, whatever transactions come (the START among them), until the
engine completes. -/
def Obligations.ResultsStayUntilTheNextStart : Prop :=
  ∀ (s : State) (es : List Event) (tws : List TransactionWord), s.busy = false →
    s.events = es ++ tws.map .transaction →
    (∀ e ∈ es, e ≠ .reset ∧ ∀ tw, e = .transaction tw → ∀ w, decode tw ≠ .wrCtrlStart w) →
    ∃ t u, Host.Core.run core es.length s = .next t ∧ t.busy = false ∧ t.regs = s.regs ∧ t.diag = s.diag ∧
      t.errinfo = s.errinfo ∧ t.valid = s.valid ∧ t.error = s.error ∧ t.errcode = s.errcode ∧
      t.warnAmpl = s.warnAmpl ∧
      Host.Core.run core (es.length + tws.length) s = .next u ∧ u.regs = s.regs ∧ u.diag = s.diag ∧
      u.errinfo = s.errinfo

/-! ### The completion step and the stages of ENCODE -/

/-- R95, R114, R128: what the completion step writes, by the outcome of ENCODE on the sample buffer, SCOUNT and
RANGE_FLAG, and that it changes nothing else. -/
def Obligations.CompletionCommitsTheOutcome : Prop :=
  ∀ s : State,
    (∀ o, encodeWaveform s.waveform s.scount s.rangeFlag = .success o →
      s.complete = { s with
        regs := o.regs, diag := ⟨o.upper, o.nz, o.maxs⟩, errinfo := ⟨0, false, false⟩, valid := true, error := false,
        errcode := .none, warnAmpl := o.warn, busy := false }) ∧
    (∀ o, encodeWaveform s.waveform s.scount s.rangeFlag = .error o →
      s.complete = { s with
        regs := .zero, diag := ⟨0, 0, o.maxs⟩, errinfo := ⟨o.index, o.countBad, o.rangeBad⟩, valid := false,
        error := true, errcode := o.code, warnAmpl := o.warn, busy := false })

/-- R97, R126: SHAPE exactly when the count is not 256 or the range flag is set, with both causes recorded and the
amplitude values 0. -/
def Obligations.ShapeErrorExactlyOnCountOrRange : Prop :=
  ∀ (smp : List Byte) (cnt : BitVec 9) (rng : Bool),
    (cnt.toNat ≠ 256 ∨ rng = true →
      encodeWaveform smp cnt rng = .error ⟨.shape, 0, decide (cnt.toNat ≠ 256), rng, 0, false⟩) ∧
    (cnt.toNat = 256 ∧ rng = false → ∀ o, encodeWaveform smp cnt rng = .error o →
      o.code ≠ .shape ∧ o.countBad = false ∧ o.rangeBad = false)

/-- R98: every outcome of an encode that passed the shape check carries the largest sample, and the warning exactly if
it exceeds 247. -/
def Obligations.AmplitudeIsReportedByEveryOutcome : Prop :=
  ∀ smp : List Byte, smp.length = 256 →
    ∃ (m : Byte) (warn : Bool), m ∈ smp ∧ (∀ v ∈ smp, v.toNat ≤ m.toNat) ∧ (warn = true ↔ 247 < m.toNat) ∧
      (∀ o, encodeWaveform smp 256 false = .success o → o.maxs = m ∧ o.warn = warn) ∧
      (∀ o, encodeWaveform smp 256 false = .error o → o.maxs = m ∧ o.warn = warn)

/-- R100, R127: STEP with index `i` exactly when delta `i` is the first one below 0 or above 3. -/
def Obligations.StepErrorNamesTheFirstBadDelta : Prop :=
  ∀ smp : List Byte, smp.length = 256 →
    let d : Nat → Int := fun i => ((smp.getD (i + 1) 0).toNat : Int) - (smp.getD i 0).toNat
    (∀ i, i < 255 → (d i < 0 ∨ 3 < d i) → (∀ j, j < i → 0 ≤ d j ∧ d j ≤ 3) →
      ∃ o, encodeWaveform smp 256 false = .error o ∧ o.code = .step ∧ o.index.toNat = i ∧ o.countBad = false ∧
        o.rangeBad = false) ∧
    ((∀ i, i < 255 → 0 ≤ d i ∧ d i ≤ 3) → ∀ o, encodeWaveform smp 256 false = .error o → o.code ≠ .step)

/-- R101, R103: bit `b` of the mask of a delta says that the delta is `b` or `b + 1`, and the tie-break takes the lowest
base of a mask. -/
def Obligations.MasksAdmitTheTwoDeltasOfABase : Prop :=
  (∀ (d : Int) (b : Nat), 0 ≤ d → d ≤ 3 → b < 3 → ((admissible d).getLsbD b = true ↔ d = b ∨ d = b + 1)) ∧
    ∀ m : BitVec 3, m ≠ 0 → lowbit m < 3 ∧ m.getLsbD (lowbit m) = true ∧ ∀ b, b < lowbit m → m.getLsbD b = false

/-- R102, R103, R104, R105: a waveform whose deltas are all 0 to 3 encodes exactly when its deltas can be cut into at
most four runs with one base each: the greedy scan is never beaten by another partition. A success commits the zones of
that scan and no other cut: each found zone has the lowest base that admits all its deltas, and the next one starts at
the first delta that no base of it admits; the zones not needed have index 255 and the last found zone's width code. -/
def Obligations.EncodeSucceedsExactlyWhenFourZonesSuffice : Prop :=
  ∀ smp : List Byte, smp.length = 256 → (∀ d ∈ deltas smp, 0 ≤ d ∧ d ≤ 3) →
    ((∃ o, encodeWaveform smp 256 false = .success o) ↔ FourRunsCover (deltas smp)) ∧
    ∀ o : EncodeSuccess, encodeWaveform smp 256 false = .success o →
      let sel := o.regs.mslutsel
      let start : Fin 5 → Nat :=
        ![0, (sel.extractLsb' 8 8).toNat, (sel.extractLsb' 16 8).toNat, (sel.extractLsb' 24 8).toNat, 255]
      let nz := o.nz.toNat
      1 ≤ nz ∧ nz ≤ 4 ∧
      (∀ j : Fin 4, j.val < nz →
        start j.castSucc < start j.succ ∧ start j.succ ≤ 255 ∧
        1 ≤ (widthCode sel j).toNat ∧
        BaseCovers (deltas smp) (start j.castSucc) (start j.succ) ((widthCode sel j).toNat - 1) ∧
        ∀ b : Nat, BaseCovers (deltas smp) (start j.castSucc) (start j.succ) b → (widthCode sel j).toNat ≤ b + 1) ∧
      (∀ j : Fin 4, j.val + 1 < nz →
        ∀ b : Nat, ¬BaseCovers (deltas smp) (start j.castSucc) (start j.succ + 1) b) ∧
      ∀ j k : Fin 4, j.val + 1 = nz → nz ≤ k.val → start k.castSucc = 255 ∧ widthCode sel k = widthCode sel j

/-- R104, R129: a PATTERN error records the first index at which four runs no longer suffice. -/
def Obligations.PatternErrorNamesTheFifthZone : Prop :=
  ∀ (smp : List Byte) (o : EncodeFailure), smp.length = 256 → encodeWaveform smp 256 false = .error o →
    o.code = .pattern →
    FourRunsCover ((deltas smp).take o.index.toNat) ∧ ¬FourRunsCover ((deltas smp).take (o.index.toNat + 1)) ∧
      o.countBad = false ∧ o.rangeBad = false

/-- R112, R130: INTERNAL is unreachable: for every waveform that reaches the verification, the packed registers
reconstruct it at every index, so no encode ends in INTERNAL, and a success commits registers that reconstruct it. -/
def Obligations.InternalErrorIsUnreachable : Prop :=
  ∀ smp : List Byte, smp.length = 256 →
    (∀ zs : List Zone, stepFailure (deltas smp) 0 = none → scanZones (deltas smp) = .ok zs → ∀ k, k < 256 →
      reconAt (packRegisters (fillZones zs) (tableBits (fillZones zs) (deltas smp)) smp) k =
        ((smp.getD k 0).toNat : Int)) ∧
    (∀ (cnt : BitVec 9) (rng : Bool) (o : EncodeFailure), encodeWaveform smp cnt rng = .error o →
      o.code ≠ .internal) ∧
    ∀ o : EncodeSuccess, encodeWaveform smp 256 false = .success o → ∀ k, k < 256 →
      reconAt o.regs k = ((smp.getD k 0).toNat : Int)

/-- R107, R108, R99: on success every delta is the base of its position's zone plus its table bit, the base being 0, 1
or 2, and the trailing bit is 0. -/
def Obligations.TableBitsCarryTheDeltas : Prop :=
  ∀ (smp : List Byte) (o : EncodeSuccess), smp.length = 256 → encodeWaveform smp 256 false = .success o →
    (∀ i, i < 255 →
      let sel := o.regs.mslutsel
      let w := (widthCode sel (zone i (indexX1 sel) (indexX2 sel) (indexX3 sel))).toNat
      1 ≤ w ∧ w ≤ 3 ∧
        ((smp.getD (i + 1) 0).toNat : Int) - (smp.getD i 0).toNat = (w : Int) - 1 + (o.regs.tableBit i).toNat) ∧
    o.regs.tableBit 255 = false

/-- R109: the packed word `n` holds table bit `32n + b` at bit `b`, and bit 31 of word 7 is the trailing bit 0 of the
table bits of 255 deltas. -/
def Obligations.TablePacksLeastSignificantBitFirst : Prop :=
  (∀ t : List Bool, t.length = 256 → ∀ (n : BitVec 3) (b : Nat), b < 32 →
    t[32 * n.toNat + b]? = some (((packTable t)[n.toNat]'n.isLt).getLsbD b)) ∧
  ∀ (p : ZonePlan) (d : List Int), d.length = 255 → ((packTable (tableBits p d))[7]).getLsbD 31 = false

/-- R110, R111: the fields of the control word and the start word that a plan and a waveform are packed into. -/
def Obligations.ControlAndStartWordFields : Prop :=
  ∀ (p : ZonePlan) (t : List Bool) (smp : List Byte), smp.length = 256 →
    let r := packRegisters p t smp
    (∀ j : Fin 4, r.mslutsel.extractLsb' (2 * j.val) 2 = BitVec.ofNat 2 (p.base[j] + 1)) ∧
    r.mslutsel.extractLsb' 8 8 = p.x1 ∧ r.mslutsel.extractLsb' 16 8 = p.x2 ∧ r.mslutsel.extractLsb' 24 8 = p.x3 ∧
    smp[0]? = some (r.mslutstart.extractLsb' 0 8) ∧ smp[255]? = some (r.mslutstart.extractLsb' 16 8) ∧
    r.mslutstart.extractLsb' 8 8 = 0#8 ∧ r.mslutstart.extractLsb' 24 8 = 0#8

/-- R106: zone membership, total for any three indices, and for ordered indices the four intervals. -/
def Obligations.ZoneMembership : Prop :=
  (∀ (k : Nat) (x1 x2 x3 : Byte), zone k x1 x2 x3 =
    if k ≥ x3.toNat then 3 else if k ≥ x2.toNat then 2 else if k ≥ x1.toNat then 1 else 0) ∧
  ∀ (k : Nat) (x1 x2 x3 : Byte), x1.toNat ≤ x2.toNat → x2.toNat ≤ x3.toNat →
    (zone k x1 x2 x3 = 0 ↔ k < x1.toNat) ∧ (zone k x1 x2 x3 = 1 ↔ x1.toNat ≤ k ∧ k < x2.toNat) ∧
    (zone k x1 x2 x3 = 2 ↔ x2.toNat ≤ k ∧ k < x3.toNat) ∧ (zone k x1 x2 x3 = 3 ↔ x3.toNat ≤ k)

/-- R119: every reconstructed value lies in [-255, 1020], whatever the registers hold. -/
def Obligations.ReconstructionIsBounded : Prop :=
  ∀ (r : RegisterSet) (k : Nat), k < 256 → -255 ≤ reconAt r k ∧ reconAt r k ≤ 1020

/-- R123: where every RegisterSet register is 0, RECON_DATA reads minus the window index. -/
def Obligations.EmptyRegisterSetReadsMinusTheIndex : Prop :=
  ∀ s : State, (∀ n, s.regs.mslutWord n = 0) → s.regs.mslutsel = 0 → s.regs.mslutstart = 0 →
    exec .rdReconData s =
      .next { s with response := some ⟨.okay, some (BitVec.ofInt 32 (-(s.winIdx.toNat : Int)))⟩ }

/-- R122: after a successful completion, and whatever transactions follow that write no sample, RECON_DATA and
ORIG_DATA return the same value at every index. -/
def Obligations.RoundTripThroughTheWindows : Prop :=
  ∀ (s : State) (tws : List TransactionWord) (w : Word), s.complete.valid = true →
    (∀ tw ∈ tws, ∀ v, decode tw ≠ .wrSampleData v) → s.events = tws.map .transaction →
    ∃ t u a, Host.Core.run core tws.length s.complete = .next t ∧ exec (.wrWinIdx w) t = .next u ∧
      exec .rdReconData u = .next { u with response := some ⟨.okay, some a⟩ } ∧
      exec .rdOrigData u = .next { u with response := some ⟨.okay, some a⟩ }

/-- R115: two encodes of equal buffers that both pass the shape check commit identical registers, DIAG, ERRINFO and
status bits, whatever else the two states hold. -/
def Obligations.EncodeIsAFunctionOfTheWaveform : Prop :=
  ∀ s t : State, (∀ k, k < 256 → s.slot k = t.slot k) → s.scount = 256 → t.scount = 256 → s.rangeFlag = false →
    t.rangeFlag = false →
    let a := s.complete
    let b := t.complete
    a.regs = b.regs ∧ a.diag = b.diag ∧ a.errinfo = b.errinfo ∧
      a.statusWord.extractLsb' 0 4 = b.statusWord.extractLsb' 0 4 ∧
      a.statusWord.extractLsb' 8 3 = b.statusWord.extractLsb' 8 3

/-- R136, R72: a START on the unchanged buffer after a completion reports the same outcome again. -/
def Obligations.SecondStartRepeatsTheOutcome : Prop :=
  ∀ s : State, s.busy = true → s.events = [.engine, .transaction 0x10000000001, .engine] →
    ∃ t u, Host.Core.run core 1 s = .next t ∧ Host.Core.run core 3 s = .next u ∧
      t.regs = u.regs ∧ t.diag = u.diag ∧ t.errinfo = u.errinfo ∧ t.statusWord = u.statusWord

/-- R117, first case: an all-equal waveform encodes with one zone of base 0 and an empty table, at every level. -/
def Obligations.AllEqualWaveformEncodes : Prop :=
  ∀ v : Byte, ∃ o, encodeWaveform (List.replicate 256 v) 256 false = .success o ∧ (∀ n, o.regs.mslutWord n = 0) ∧
    o.regs.mslutsel = 0xFFFFFF55 ∧ o.regs.startSin = v ∧ o.regs.startSin90 = v ∧ o.upper = 0 ∧ o.nz = 1 ∧ o.maxs = v

/-! ### The encode protocol -/

/-- R18, R77, R155: after an accepted CLEAR and any number of accepted sample writes, SCOUNT is that number, saturated
at 257, the slots hold the first 256 of the data, and RANGE_FLAG says whether some datum was outside [0, 255]. -/
def Obligations.LoadingFillsTheSlotsInOrder : Prop :=
  ∀ (s : State) (ws : List Word), s.busy = false →
    s.events = .transaction 0x10000000002 :: ws.map (fun w => .transaction (encode (.wrSampleData w))) →
    ∃ t, Host.Core.run core (ws.length + 1) s = .next t ∧ t.busy = false ∧ t.scount.toNat = min ws.length 257 ∧
      (t.rangeFlag = true ↔ ∃ w ∈ ws, w.toInt < 0 ∨ 255 < w.toInt) ∧
      (∀ k w, ws[k]? = some w → k < 256 → t.slot k = w.extractLsb' 0 8) ∧
      (∀ k, ws.length ≤ k → t.slot k = s.slot k)

/-- R150: the encode protocol. From any idle state, CLEAR, 256 sample writes, START and the completion step end with
the outcome of ENCODE on those samples in the registers, and with the samples in the buffer. -/
def Obligations.EncodeProtocolComputesTheEncode : Prop :=
  ∀ (s : State) (vs : List Byte), s.busy = false → vs.length = 256 →
    s.events = .transaction 0x10000000002 ::
      (vs.map (fun v => .transaction (encode (.wrSampleData (v.zeroExtend 32)))) ++
        [.transaction 0x10000000001, .engine]) →
    ∃ t, Host.Core.run core 259 s = .next t ∧ t.busy = false ∧ t.events = [] ∧ t.waveform = vs ∧ t.scount = 256 ∧
      match encodeWaveform vs 256 false with
      | .success o => t.valid = true ∧ t.error = false ∧ t.regs = o.regs ∧ t.diag = ⟨o.upper, o.nz, o.maxs⟩ ∧
          t.errinfo = .zero ∧ t.warnAmpl = o.warn
      | .error o => t.valid = false ∧ t.error = true ∧ t.errcode = o.code ∧ t.regs = .zero ∧
          t.diag = ⟨0, 0, o.maxs⟩ ∧ t.errinfo = ⟨o.index, o.countBad, o.rangeBad⟩ ∧ t.warnAmpl = o.warn

/-! ### Invariants -/

/-- R17 to R27: every step keeps the invariant of the input and status state. -/
def Obligations.EveryStepKeepsTheControlInvariant : Prop :=
  ∀ s t : State, s.ControlInv → step s = .next t → t.ControlInv

/-- R116, R105, R114, R128: every step keeps the invariant of the result state: the registers hold nothing, or a whole
result with the shape R116 and R105 give it. -/
def Obligations.EveryStepKeepsTheResultInvariant : Prop :=
  ∀ s t : State, s.ResultInv → step s = .next t → t.ResultInv

/-- R145: the state after reset is a state of a safe run. -/
def Obligations.ResetStateIsSafe : Prop := State.reset.Safe

/-- R95, R22, R23: a completion always ends the encode, with a result or with an error, never both. -/
def Obligations.CompletionEndsInAResultOrAnError : Prop :=
  ∀ s : State, s.complete.busy = false ∧ (s.complete.valid = true ↔ s.complete.error = false) ∧
    (s.complete.error = true ↔ s.complete.errcode ≠ .none)
end

