-- ==== Sys2Proof/Laws/Encoding.lean ====
section
/-! SUPPORT. The fields of a composed transaction word, and a word as the composition of its fields (R56); the offset of
a register leads back to the register (R48). -/

namespace Sys2Proof

@[simp] theorem transactionWord_we (we : Bool) (addr : Byte) (wdata : Word) :
    TransactionWord.we (transactionWord we addr wdata) = we := by
  unfold TransactionWord.we transactionWord
  rw [BitVec.getLsbD_cast, BitVec.getLsbD_append, BitVec.getLsbD_append]
  simp

@[simp] theorem transactionWord_addr (we : Bool) (addr : Byte) (wdata : Word) :
    TransactionWord.addr (transactionWord we addr wdata) = addr := by
  ext i hi
  simp only [TransactionWord.addr, transactionWord, BitVec.getElem_extractLsb', BitVec.getLsbD_cast, BitVec.getLsbD_append]
  simp [hi, BitVec.getLsbD_eq_getElem]

@[simp] theorem transactionWord_wdata (we : Bool) (addr : Byte) (wdata : Word) :
    TransactionWord.wdata (transactionWord we addr wdata) = wdata := by
  ext i hi
  simp only [TransactionWord.wdata, transactionWord, BitVec.getElem_extractLsb', BitVec.getLsbD_cast, BitVec.getLsbD_append]
  simp [hi, BitVec.getLsbD_eq_getElem]

theorem transactionWord_fields (tw : TransactionWord) : transactionWord tw.we tw.addr tw.wdata = tw := by
  apply BitVec.eq_of_getLsbD_eq
  intro i hi
  simp only [TransactionWord.we, TransactionWord.addr, TransactionWord.wdata, transactionWord, BitVec.getLsbD_cast,
    BitVec.getLsbD_append, BitVec.getLsbD_extractLsb', BitVec.getLsbD_ofBool]
  by_cases h1 : i < 32
  · simp [h1]
  · by_cases h2 : i - 32 < 8
    · simp [h1, h2, show 32 + (i - 32) = i by omega]
    · obtain rfl : i = 40 := by omega
      simp

namespace Machine

/-- The register at the offset of a register is that register (R48). -/
@[simp] theorem registerAt_offset (r : Register) : registerAt r.offset = some r := by
  cases r with
  | mslut n => revert n; decide
  | _ => decide

/-- A mapped offset is the offset of its register (R48). -/
theorem offset_registerAt (addr : Byte) (r : Register) (h : registerAt addr = some r) : r.offset = addr := by
  have key : ∀ a : Byte, (registerAt a).all (fun r => r.offset == a) = true := by decide +kernel
  have := key addr
  rw [h] at this
  simpa using this

end Machine

end Sys2Proof
end

