-- ==== Sys2Proof/Laws/State.lean ====
section
/-! SUPPORT. One lemma per field of the state and per named update of it, so that no proof unfolds an update; and
what the sample buffer reads as after each update. -/

namespace Sys2Proof.Machine

/-! ### `State.respond` -/

@[simp] theorem State.respond_smp (s : State) (r : Response) : (s.respond r).smp = s.smp := rfl
@[simp] theorem State.respond_scount (s : State) (r : Response) : (s.respond r).scount = s.scount := rfl
@[simp] theorem State.respond_rangeFlag (s : State) (r : Response) : (s.respond r).rangeFlag = s.rangeFlag := rfl
@[simp] theorem State.respond_busy (s : State) (r : Response) : (s.respond r).busy = s.busy := rfl
@[simp] theorem State.respond_valid (s : State) (r : Response) : (s.respond r).valid = s.valid := rfl
@[simp] theorem State.respond_error (s : State) (r : Response) : (s.respond r).error = s.error := rfl
@[simp] theorem State.respond_warnAmpl (s : State) (r : Response) : (s.respond r).warnAmpl = s.warnAmpl := rfl
@[simp] theorem State.respond_wrIgnored (s : State) (r : Response) : (s.respond r).wrIgnored = s.wrIgnored := rfl
@[simp] theorem State.respond_errcode (s : State) (r : Response) : (s.respond r).errcode = s.errcode := rfl
@[simp] theorem State.respond_diag (s : State) (r : Response) : (s.respond r).diag = s.diag := rfl
@[simp] theorem State.respond_errinfo (s : State) (r : Response) : (s.respond r).errinfo = s.errinfo := rfl
@[simp] theorem State.respond_regs (s : State) (r : Response) : (s.respond r).regs = s.regs := rfl
@[simp] theorem State.respond_winIdx (s : State) (r : Response) : (s.respond r).winIdx = s.winIdx := rfl
@[simp] theorem State.respond_response (s : State) (r : Response) : (s.respond r).response = some r := rfl
@[simp] theorem State.respond_events (s : State) (r : Response) : (s.respond r).events = s.events := rfl
@[simp] theorem State.respond_resets (s : State) (r : Response) : (s.respond r).resets = s.resets := rfl

/-! ### `State.noteIgnored` -/

@[simp] theorem State.noteIgnored_smp (s : State) : (s.noteIgnored).smp = s.smp := rfl
@[simp] theorem State.noteIgnored_scount (s : State) : (s.noteIgnored).scount = s.scount := rfl
@[simp] theorem State.noteIgnored_rangeFlag (s : State) : (s.noteIgnored).rangeFlag = s.rangeFlag := rfl
@[simp] theorem State.noteIgnored_busy (s : State) : (s.noteIgnored).busy = s.busy := rfl
@[simp] theorem State.noteIgnored_valid (s : State) : (s.noteIgnored).valid = s.valid := rfl
@[simp] theorem State.noteIgnored_error (s : State) : (s.noteIgnored).error = s.error := rfl
@[simp] theorem State.noteIgnored_warnAmpl (s : State) : (s.noteIgnored).warnAmpl = s.warnAmpl := rfl
@[simp] theorem State.noteIgnored_wrIgnored (s : State) : (s.noteIgnored).wrIgnored = true := rfl
@[simp] theorem State.noteIgnored_errcode (s : State) : (s.noteIgnored).errcode = s.errcode := rfl
@[simp] theorem State.noteIgnored_diag (s : State) : (s.noteIgnored).diag = s.diag := rfl
@[simp] theorem State.noteIgnored_errinfo (s : State) : (s.noteIgnored).errinfo = s.errinfo := rfl
@[simp] theorem State.noteIgnored_regs (s : State) : (s.noteIgnored).regs = s.regs := rfl
@[simp] theorem State.noteIgnored_winIdx (s : State) : (s.noteIgnored).winIdx = s.winIdx := rfl
@[simp] theorem State.noteIgnored_response (s : State) : (s.noteIgnored).response = s.response := rfl
@[simp] theorem State.noteIgnored_events (s : State) : (s.noteIgnored).events = s.events := rfl
@[simp] theorem State.noteIgnored_resets (s : State) : (s.noteIgnored).resets = s.resets := rfl

/-! ### `State.startEncode` -/

@[simp] theorem State.startEncode_smp (s : State) : (s.startEncode).smp = s.smp := rfl
@[simp] theorem State.startEncode_scount (s : State) : (s.startEncode).scount = s.scount := rfl
@[simp] theorem State.startEncode_rangeFlag (s : State) : (s.startEncode).rangeFlag = s.rangeFlag := rfl
@[simp] theorem State.startEncode_busy (s : State) : (s.startEncode).busy = true := rfl
@[simp] theorem State.startEncode_valid (s : State) : (s.startEncode).valid = false := rfl
@[simp] theorem State.startEncode_error (s : State) : (s.startEncode).error = false := rfl
@[simp] theorem State.startEncode_warnAmpl (s : State) : (s.startEncode).warnAmpl = false := rfl
@[simp] theorem State.startEncode_wrIgnored (s : State) : (s.startEncode).wrIgnored = s.wrIgnored := rfl
@[simp] theorem State.startEncode_errcode (s : State) : (s.startEncode).errcode = .none := rfl
@[simp] theorem State.startEncode_diag (s : State) : (s.startEncode).diag = s.diag := rfl
@[simp] theorem State.startEncode_errinfo (s : State) : (s.startEncode).errinfo = s.errinfo := rfl
@[simp] theorem State.startEncode_regs (s : State) : (s.startEncode).regs = s.regs := rfl
@[simp] theorem State.startEncode_winIdx (s : State) : (s.startEncode).winIdx = s.winIdx := rfl
@[simp] theorem State.startEncode_response (s : State) : (s.startEncode).response = s.response := rfl
@[simp] theorem State.startEncode_events (s : State) : (s.startEncode).events = s.events := rfl
@[simp] theorem State.startEncode_resets (s : State) : (s.startEncode).resets = s.resets := rfl

/-! ### `State.clearInput` -/

@[simp] theorem State.clearInput_smp (s : State) : (s.clearInput).smp = s.smp := rfl
@[simp] theorem State.clearInput_scount (s : State) : (s.clearInput).scount = 0 := rfl
@[simp] theorem State.clearInput_rangeFlag (s : State) : (s.clearInput).rangeFlag = false := rfl
@[simp] theorem State.clearInput_busy (s : State) : (s.clearInput).busy = s.busy := rfl
@[simp] theorem State.clearInput_valid (s : State) : (s.clearInput).valid = s.valid := rfl
@[simp] theorem State.clearInput_error (s : State) : (s.clearInput).error = s.error := rfl
@[simp] theorem State.clearInput_warnAmpl (s : State) : (s.clearInput).warnAmpl = s.warnAmpl := rfl
@[simp] theorem State.clearInput_wrIgnored (s : State) : (s.clearInput).wrIgnored = false := rfl
@[simp] theorem State.clearInput_errcode (s : State) : (s.clearInput).errcode = s.errcode := rfl
@[simp] theorem State.clearInput_diag (s : State) : (s.clearInput).diag = s.diag := rfl
@[simp] theorem State.clearInput_errinfo (s : State) : (s.clearInput).errinfo = s.errinfo := rfl
@[simp] theorem State.clearInput_regs (s : State) : (s.clearInput).regs = s.regs := rfl
@[simp] theorem State.clearInput_winIdx (s : State) : (s.clearInput).winIdx = s.winIdx := rfl
@[simp] theorem State.clearInput_response (s : State) : (s.clearInput).response = s.response := rfl
@[simp] theorem State.clearInput_events (s : State) : (s.clearInput).events = s.events := rfl
@[simp] theorem State.clearInput_resets (s : State) : (s.clearInput).resets = s.resets := rfl

/-! ### `State.acceptSample` -/

@[simp] theorem State.acceptSample_smp (s : State) (w : Word) : (s.acceptSample w).smp = s.storeSample w := rfl
@[simp] theorem State.acceptSample_scount (s : State) (w : Word) : (s.acceptSample w).scount = nextCount s.scount := rfl
@[simp] theorem State.acceptSample_rangeFlag (s : State) (w : Word) : (s.acceptSample w).rangeFlag = (s.rangeFlag || sampleOutOfRange w) := rfl
@[simp] theorem State.acceptSample_busy (s : State) (w : Word) : (s.acceptSample w).busy = s.busy := rfl
@[simp] theorem State.acceptSample_valid (s : State) (w : Word) : (s.acceptSample w).valid = s.valid := rfl
@[simp] theorem State.acceptSample_error (s : State) (w : Word) : (s.acceptSample w).error = s.error := rfl
@[simp] theorem State.acceptSample_warnAmpl (s : State) (w : Word) : (s.acceptSample w).warnAmpl = s.warnAmpl := rfl
@[simp] theorem State.acceptSample_wrIgnored (s : State) (w : Word) : (s.acceptSample w).wrIgnored = s.wrIgnored := rfl
@[simp] theorem State.acceptSample_errcode (s : State) (w : Word) : (s.acceptSample w).errcode = s.errcode := rfl
@[simp] theorem State.acceptSample_diag (s : State) (w : Word) : (s.acceptSample w).diag = s.diag := rfl
@[simp] theorem State.acceptSample_errinfo (s : State) (w : Word) : (s.acceptSample w).errinfo = s.errinfo := rfl
@[simp] theorem State.acceptSample_regs (s : State) (w : Word) : (s.acceptSample w).regs = s.regs := rfl
@[simp] theorem State.acceptSample_winIdx (s : State) (w : Word) : (s.acceptSample w).winIdx = s.winIdx := rfl
@[simp] theorem State.acceptSample_response (s : State) (w : Word) : (s.acceptSample w).response = s.response := rfl
@[simp] theorem State.acceptSample_events (s : State) (w : Word) : (s.acceptSample w).events = s.events := rfl
@[simp] theorem State.acceptSample_resets (s : State) (w : Word) : (s.acceptSample w).resets = s.resets := rfl

/-! ### `State.selectWindow` -/

@[simp] theorem State.selectWindow_smp (s : State) (x : Byte) : (s.selectWindow x).smp = s.smp := rfl
@[simp] theorem State.selectWindow_scount (s : State) (x : Byte) : (s.selectWindow x).scount = s.scount := rfl
@[simp] theorem State.selectWindow_rangeFlag (s : State) (x : Byte) : (s.selectWindow x).rangeFlag = s.rangeFlag := rfl
@[simp] theorem State.selectWindow_busy (s : State) (x : Byte) : (s.selectWindow x).busy = s.busy := rfl
@[simp] theorem State.selectWindow_valid (s : State) (x : Byte) : (s.selectWindow x).valid = s.valid := rfl
@[simp] theorem State.selectWindow_error (s : State) (x : Byte) : (s.selectWindow x).error = s.error := rfl
@[simp] theorem State.selectWindow_warnAmpl (s : State) (x : Byte) : (s.selectWindow x).warnAmpl = s.warnAmpl := rfl
@[simp] theorem State.selectWindow_wrIgnored (s : State) (x : Byte) : (s.selectWindow x).wrIgnored = s.wrIgnored := rfl
@[simp] theorem State.selectWindow_errcode (s : State) (x : Byte) : (s.selectWindow x).errcode = s.errcode := rfl
@[simp] theorem State.selectWindow_diag (s : State) (x : Byte) : (s.selectWindow x).diag = s.diag := rfl
@[simp] theorem State.selectWindow_errinfo (s : State) (x : Byte) : (s.selectWindow x).errinfo = s.errinfo := rfl
@[simp] theorem State.selectWindow_regs (s : State) (x : Byte) : (s.selectWindow x).regs = s.regs := rfl
@[simp] theorem State.selectWindow_winIdx (s : State) (x : Byte) : (s.selectWindow x).winIdx = x := rfl
@[simp] theorem State.selectWindow_response (s : State) (x : Byte) : (s.selectWindow x).response = s.response := rfl
@[simp] theorem State.selectWindow_events (s : State) (x : Byte) : (s.selectWindow x).events = s.events := rfl
@[simp] theorem State.selectWindow_resets (s : State) (x : Byte) : (s.selectWindow x).resets = s.resets := rfl

/-! ### `State.commitSuccess` -/

@[simp] theorem State.commitSuccess_smp (s : State) (o : EncodeSuccess) : (s.commitSuccess o).smp = s.smp := rfl
@[simp] theorem State.commitSuccess_scount (s : State) (o : EncodeSuccess) : (s.commitSuccess o).scount = s.scount := rfl
@[simp] theorem State.commitSuccess_rangeFlag (s : State) (o : EncodeSuccess) : (s.commitSuccess o).rangeFlag = s.rangeFlag := rfl
@[simp] theorem State.commitSuccess_busy (s : State) (o : EncodeSuccess) : (s.commitSuccess o).busy = s.busy := rfl
@[simp] theorem State.commitSuccess_valid (s : State) (o : EncodeSuccess) : (s.commitSuccess o).valid = true := rfl
@[simp] theorem State.commitSuccess_error (s : State) (o : EncodeSuccess) : (s.commitSuccess o).error = false := rfl
@[simp] theorem State.commitSuccess_warnAmpl (s : State) (o : EncodeSuccess) : (s.commitSuccess o).warnAmpl = o.warn := rfl
@[simp] theorem State.commitSuccess_wrIgnored (s : State) (o : EncodeSuccess) : (s.commitSuccess o).wrIgnored = s.wrIgnored := rfl
@[simp] theorem State.commitSuccess_errcode (s : State) (o : EncodeSuccess) : (s.commitSuccess o).errcode = .none := rfl
@[simp] theorem State.commitSuccess_diag (s : State) (o : EncodeSuccess) : (s.commitSuccess o).diag = ⟨o.upper, o.nz, o.maxs⟩ := rfl
@[simp] theorem State.commitSuccess_errinfo (s : State) (o : EncodeSuccess) : (s.commitSuccess o).errinfo = .zero := rfl
@[simp] theorem State.commitSuccess_regs (s : State) (o : EncodeSuccess) : (s.commitSuccess o).regs = o.regs := rfl
@[simp] theorem State.commitSuccess_winIdx (s : State) (o : EncodeSuccess) : (s.commitSuccess o).winIdx = s.winIdx := rfl
@[simp] theorem State.commitSuccess_response (s : State) (o : EncodeSuccess) : (s.commitSuccess o).response = s.response := rfl
@[simp] theorem State.commitSuccess_events (s : State) (o : EncodeSuccess) : (s.commitSuccess o).events = s.events := rfl
@[simp] theorem State.commitSuccess_resets (s : State) (o : EncodeSuccess) : (s.commitSuccess o).resets = s.resets := rfl

/-! ### `State.commitError` -/

@[simp] theorem State.commitError_smp (s : State) (o : EncodeFailure) : (s.commitError o).smp = s.smp := rfl
@[simp] theorem State.commitError_scount (s : State) (o : EncodeFailure) : (s.commitError o).scount = s.scount := rfl
@[simp] theorem State.commitError_rangeFlag (s : State) (o : EncodeFailure) : (s.commitError o).rangeFlag = s.rangeFlag := rfl
@[simp] theorem State.commitError_busy (s : State) (o : EncodeFailure) : (s.commitError o).busy = s.busy := rfl
@[simp] theorem State.commitError_valid (s : State) (o : EncodeFailure) : (s.commitError o).valid = false := rfl
@[simp] theorem State.commitError_error (s : State) (o : EncodeFailure) : (s.commitError o).error = true := rfl
@[simp] theorem State.commitError_warnAmpl (s : State) (o : EncodeFailure) : (s.commitError o).warnAmpl = o.warn := rfl
@[simp] theorem State.commitError_wrIgnored (s : State) (o : EncodeFailure) : (s.commitError o).wrIgnored = s.wrIgnored := rfl
@[simp] theorem State.commitError_errcode (s : State) (o : EncodeFailure) : (s.commitError o).errcode = o.code := rfl
@[simp] theorem State.commitError_diag (s : State) (o : EncodeFailure) : (s.commitError o).diag = ⟨0, 0, o.maxs⟩ := rfl
@[simp] theorem State.commitError_errinfo (s : State) (o : EncodeFailure) : (s.commitError o).errinfo = ⟨o.index, o.countBad, o.rangeBad⟩ := rfl
@[simp] theorem State.commitError_regs (s : State) (o : EncodeFailure) : (s.commitError o).regs = .zero := rfl
@[simp] theorem State.commitError_winIdx (s : State) (o : EncodeFailure) : (s.commitError o).winIdx = s.winIdx := rfl
@[simp] theorem State.commitError_response (s : State) (o : EncodeFailure) : (s.commitError o).response = s.response := rfl
@[simp] theorem State.commitError_events (s : State) (o : EncodeFailure) : (s.commitError o).events = s.events := rfl
@[simp] theorem State.commitError_resets (s : State) (o : EncodeFailure) : (s.commitError o).resets = s.resets := rfl

/-! ### `State.endEncode` -/

@[simp] theorem State.endEncode_smp (s : State) : (s.endEncode).smp = s.smp := rfl
@[simp] theorem State.endEncode_scount (s : State) : (s.endEncode).scount = s.scount := rfl
@[simp] theorem State.endEncode_rangeFlag (s : State) : (s.endEncode).rangeFlag = s.rangeFlag := rfl
@[simp] theorem State.endEncode_busy (s : State) : (s.endEncode).busy = false := rfl
@[simp] theorem State.endEncode_valid (s : State) : (s.endEncode).valid = s.valid := rfl
@[simp] theorem State.endEncode_error (s : State) : (s.endEncode).error = s.error := rfl
@[simp] theorem State.endEncode_warnAmpl (s : State) : (s.endEncode).warnAmpl = s.warnAmpl := rfl
@[simp] theorem State.endEncode_wrIgnored (s : State) : (s.endEncode).wrIgnored = s.wrIgnored := rfl
@[simp] theorem State.endEncode_errcode (s : State) : (s.endEncode).errcode = s.errcode := rfl
@[simp] theorem State.endEncode_diag (s : State) : (s.endEncode).diag = s.diag := rfl
@[simp] theorem State.endEncode_errinfo (s : State) : (s.endEncode).errinfo = s.errinfo := rfl
@[simp] theorem State.endEncode_regs (s : State) : (s.endEncode).regs = s.regs := rfl
@[simp] theorem State.endEncode_winIdx (s : State) : (s.endEncode).winIdx = s.winIdx := rfl
@[simp] theorem State.endEncode_response (s : State) : (s.endEncode).response = s.response := rfl
@[simp] theorem State.endEncode_events (s : State) : (s.endEncode).events = s.events := rfl
@[simp] theorem State.endEncode_resets (s : State) : (s.endEncode).resets = s.resets := rfl

/-! ### `State.withEvents` -/

@[simp] theorem State.withEvents_smp (s : State) (es : List Event) : (s.withEvents es).smp = s.smp := rfl
@[simp] theorem State.withEvents_scount (s : State) (es : List Event) : (s.withEvents es).scount = s.scount := rfl
@[simp] theorem State.withEvents_rangeFlag (s : State) (es : List Event) : (s.withEvents es).rangeFlag = s.rangeFlag := rfl
@[simp] theorem State.withEvents_busy (s : State) (es : List Event) : (s.withEvents es).busy = s.busy := rfl
@[simp] theorem State.withEvents_valid (s : State) (es : List Event) : (s.withEvents es).valid = s.valid := rfl
@[simp] theorem State.withEvents_error (s : State) (es : List Event) : (s.withEvents es).error = s.error := rfl
@[simp] theorem State.withEvents_warnAmpl (s : State) (es : List Event) : (s.withEvents es).warnAmpl = s.warnAmpl := rfl
@[simp] theorem State.withEvents_wrIgnored (s : State) (es : List Event) : (s.withEvents es).wrIgnored = s.wrIgnored := rfl
@[simp] theorem State.withEvents_errcode (s : State) (es : List Event) : (s.withEvents es).errcode = s.errcode := rfl
@[simp] theorem State.withEvents_diag (s : State) (es : List Event) : (s.withEvents es).diag = s.diag := rfl
@[simp] theorem State.withEvents_errinfo (s : State) (es : List Event) : (s.withEvents es).errinfo = s.errinfo := rfl
@[simp] theorem State.withEvents_regs (s : State) (es : List Event) : (s.withEvents es).regs = s.regs := rfl
@[simp] theorem State.withEvents_winIdx (s : State) (es : List Event) : (s.withEvents es).winIdx = s.winIdx := rfl
@[simp] theorem State.withEvents_response (s : State) (es : List Event) : (s.withEvents es).response = s.response := rfl
@[simp] theorem State.withEvents_events (s : State) (es : List Event) : (s.withEvents es).events = es := rfl
@[simp] theorem State.withEvents_resets (s : State) (es : List Event) : (s.withEvents es).resets = s.resets := rfl

/-! ### `State.assertReset` -/

@[simp] theorem State.assertReset_smp (s : State) : (s.assertReset).smp = [] := rfl
@[simp] theorem State.assertReset_scount (s : State) : (s.assertReset).scount = 0 := rfl
@[simp] theorem State.assertReset_rangeFlag (s : State) : (s.assertReset).rangeFlag = false := rfl
@[simp] theorem State.assertReset_busy (s : State) : (s.assertReset).busy = false := rfl
@[simp] theorem State.assertReset_valid (s : State) : (s.assertReset).valid = false := rfl
@[simp] theorem State.assertReset_error (s : State) : (s.assertReset).error = false := rfl
@[simp] theorem State.assertReset_warnAmpl (s : State) : (s.assertReset).warnAmpl = false := rfl
@[simp] theorem State.assertReset_wrIgnored (s : State) : (s.assertReset).wrIgnored = false := rfl
@[simp] theorem State.assertReset_errcode (s : State) : (s.assertReset).errcode = .none := rfl
@[simp] theorem State.assertReset_diag (s : State) : (s.assertReset).diag = .zero := rfl
@[simp] theorem State.assertReset_errinfo (s : State) : (s.assertReset).errinfo = .zero := rfl
@[simp] theorem State.assertReset_regs (s : State) : (s.assertReset).regs = .zero := rfl
@[simp] theorem State.assertReset_winIdx (s : State) : (s.assertReset).winIdx = 0 := rfl
@[simp] theorem State.assertReset_response (s : State) : (s.assertReset).response = none := rfl
@[simp] theorem State.assertReset_events (s : State) : (s.assertReset).events = s.events := rfl
@[simp] theorem State.assertReset_resets (s : State) : (s.assertReset).resets = s.resets + 1 := rfl

/-! ### The sample buffer -/

@[simp] theorem State.slot_respond (s : State) (r : Response) (k : Nat) : (s.respond r).slot k = s.slot k := rfl
@[simp] theorem State.waveform_respond (s : State) (r : Response) : (s.respond r).waveform = s.waveform := rfl
@[simp] theorem State.slot_noteIgnored (s : State) (k : Nat) : (s.noteIgnored).slot k = s.slot k := rfl
@[simp] theorem State.waveform_noteIgnored (s : State) : (s.noteIgnored).waveform = s.waveform := rfl
@[simp] theorem State.slot_startEncode (s : State) (k : Nat) : (s.startEncode).slot k = s.slot k := rfl
@[simp] theorem State.waveform_startEncode (s : State) : (s.startEncode).waveform = s.waveform := rfl
@[simp] theorem State.slot_clearInput (s : State) (k : Nat) : (s.clearInput).slot k = s.slot k := rfl
@[simp] theorem State.waveform_clearInput (s : State) : (s.clearInput).waveform = s.waveform := rfl
@[simp] theorem State.slot_selectWindow (s : State) (x : Byte) (k : Nat) : (s.selectWindow x).slot k = s.slot k := rfl
@[simp] theorem State.waveform_selectWindow (s : State) (x : Byte) : (s.selectWindow x).waveform = s.waveform := rfl
@[simp] theorem State.slot_commitSuccess (s : State) (o : EncodeSuccess) (k : Nat) : (s.commitSuccess o).slot k = s.slot k := rfl
@[simp] theorem State.waveform_commitSuccess (s : State) (o : EncodeSuccess) : (s.commitSuccess o).waveform = s.waveform := rfl
@[simp] theorem State.slot_commitError (s : State) (o : EncodeFailure) (k : Nat) : (s.commitError o).slot k = s.slot k := rfl
@[simp] theorem State.waveform_commitError (s : State) (o : EncodeFailure) : (s.commitError o).waveform = s.waveform := rfl
@[simp] theorem State.slot_endEncode (s : State) (k : Nat) : (s.endEncode).slot k = s.slot k := rfl
@[simp] theorem State.waveform_endEncode (s : State) : (s.endEncode).waveform = s.waveform := rfl
@[simp] theorem State.slot_withEvents (s : State) (es : List Event) (k : Nat) : (s.withEvents es).slot k = s.slot k := rfl
@[simp] theorem State.waveform_withEvents (s : State) (es : List Event) : (s.withEvents es).waveform = s.waveform := rfl
@[simp] theorem State.slot_assertReset (s : State) (k : Nat) : s.assertReset.slot k = Config.resetSample (s.resets + 1) k := rfl

end Sys2Proof.Machine
end

