-- ==== Sys2Proof/Laws/Ops.lean ====
section
/-! SUPPORT. What the shared operations can do: the sample buffer read after a write and kept in canonical form, the
replies, and busy gating. -/

namespace Sys2Proof.Machine

/-! ### The sample buffer -/

/-- A written slot reads back. -/
@[simp] theorem Memory.read_write_same (m : Memory) (k : Nat) (v : Byte) : (m.write k v).read k = some v := by
  induction m with
  | nil => simp [Memory.write, Memory.read]
  | cons c rest ih =>
    obtain ⟨a, w⟩ := c
    simp only [Memory.write]
    split
    · simp [Memory.read]
    · split
      · simp [Memory.read]
      · rename_i h
        simp [Memory.read, Ne.symm h, ih]

/-- A write leaves every other slot alone. -/
theorem Memory.read_write_other (m : Memory) (k j : Nat) (v : Byte) (h : j ≠ k) :
    (m.write k v).read j = m.read j := by
  induction m with
  | nil => simp [Memory.write, Memory.read, Ne.symm h]
  | cons c rest ih =>
    obtain ⟨a, w⟩ := c
    simp only [Memory.write]
    split
    · simp [Memory.read, Ne.symm h]
    · split
      · rename_i hka
        subst hka
        simp [Memory.read, Ne.symm h]
      · simp [Memory.read, ih]

/-- A write keeps the slots rising. -/
theorem Memory.risingFrom_write (m : Memory) (k : Nat) (v : Byte) (lo : Nat) (hk : lo ≤ k)
    (h : Memory.risingFrom lo m = true) : Memory.risingFrom lo (m.write k v) = true := by
  induction m generalizing lo with
  | nil => simp [Memory.write, Memory.risingFrom, hk]
  | cons c rest ih =>
    obtain ⟨a, w⟩ := c
    simp only [Memory.risingFrom, Bool.and_eq_true, decide_eq_true_eq] at h
    simp only [Memory.write]
    split
    · simp only [Memory.risingFrom, Bool.and_eq_true, decide_eq_true_eq]
      exact ⟨hk, by omega, h.2⟩
    · split
      · rename_i hka
        subst hka
        simp [Memory.risingFrom, h]
      · simp only [Memory.risingFrom, Bool.and_eq_true, decide_eq_true_eq]
        exact ⟨h.1, ih (a + 1) (by omega) h.2⟩

/-- The slots of a written buffer are the old ones and the written one. -/
theorem Memory.mem_write (m : Memory) (k : Nat) (v : Byte) (c : Host.Cell) (h : c ∈ m.write k v) :
    c = (k, v) ∨ c ∈ m := by
  induction m with
  | nil => simpa [Memory.write] using h
  | cons d rest ih =>
    obtain ⟨a, w⟩ := d
    simp only [Memory.write] at h
    split at h
    · simpa using h
    · split at h
      · rcases List.mem_cons.1 h with h | h
        · exact .inl h
        · exact .inr (List.mem_cons_of_mem _ h)
      · rcases List.mem_cons.1 h with h | h
        · exact .inr (h ▸ List.mem_cons_self)
        · exact (ih h).imp_right (List.mem_cons_of_mem _)

/-- A write of one of the 256 slots keeps the canonical form. -/
theorem Memory.wf_write (m : Memory) (k : Nat) (v : Byte) (hk : k < Config.nSamples) (h : m.wf = true) :
    (m.write k v).wf = true := by
  simp only [Memory.wf, Bool.and_eq_true, List.all_eq_true, decide_eq_true_eq] at h ⊢
  refine ⟨Memory.risingFrom_write m k v 0 (Nat.zero_le k) h.1, fun c hc => ?_⟩
  rcases Memory.mem_write m k v c hc with rfl | hc
  · exact hk
  · exact h.2 c hc

/-- The buffer of the machine after reset has the canonical form. -/
theorem Memory.wf_reset : State.reset.smp.wf = true := rfl

/-- An accepted sample write keeps the canonical form. -/
theorem State.storeSample_wf (s : State) (w : Word) (h : s.smp.wf = true) : (s.storeSample w).wf = true := by
  unfold State.storeSample
  split
  · exact Memory.wf_write _ _ _ ‹_› h
  · exact h

/-- What the sample buffer reads as after an accepted sample write (R77). -/
theorem State.slot_acceptSample (s : State) (w : Word) (k : Nat) :
    (s.acceptSample w).slot k =
      if k = s.scount.toNat ∧ k < Config.nSamples then sampleByte w else s.slot k := by
  simp only [State.slot, State.acceptSample_smp, State.acceptSample_resets, State.storeSample]
  by_cases hc : s.scount.toNat < Config.nSamples
  · by_cases hk : k = s.scount.toNat
    · subst hk
      simp [hc]
    · simp [hc, hk, Memory.read_write_other _ _ _ _ hk]
  · have : ¬(k = s.scount.toNat ∧ k < Config.nSamples) := by omega
    simp [hc, this]

/-- The buffer has 256 samples. -/
@[simp] theorem State.waveform_length (s : State) : s.waveform.length = 256 := by simp [State.waveform]

/-- Sample `k` of the buffer. -/
theorem State.waveform_getElem (s : State) (k : Nat) (h : k < s.waveform.length) : s.waveform[k] = s.slot k := by
  simp [State.waveform]

/-- The count after an accepted sample write, with no wrap (R18). -/
@[simp] theorem nextCount_toNat (c : BitVec 9) : (nextCount c).toNat = min (c.toNat + 1) 257 := by
  simp only [nextCount, BitVec.toNat_ofNat, Config.scountMax]
  omega

/-! ### Replies and gating -/

theorem replyRead_next (s t : State) (w : Word) : replyRead s w = .next t ↔ t = s.respond (okayRead w) := by
  simp [replyRead, eq_comm]

theorem replyWrite_next (s t : State) : replyWrite s = .next t ↔ t = s.respond okayWrite := by
  simp [replyWrite, eq_comm]

theorem busError_next (s t : State) : busError s = .next t ↔ t = s.respond busErrorResponse := by
  simp [busError, eq_comm]

/-- A gated write ends either with the write noted as ignored, while BUSY, or with its effect (R69). -/
theorem gatedWrite_next (s e t : State) :
    gatedWrite s e = .next t ↔
      (s.busy = true ∧ t = s.noteIgnored.respond okayWrite) ∨ (s.busy = false ∧ t = e.respond okayWrite) := by
  cases h : s.busy <;> simp [gatedWrite, replyWrite, h, eq_comm]

end Sys2Proof.Machine
end

