-- ==== Sys2Proof/Laws/Engine.lean ====
section
/-! SUPPORT. The shapes of the engine's stages: how many deltas, table bits and reconstructed samples there are, what
RECON answers at each index, and the two ways a completion ends. -/

namespace Sys2Proof.Machine

/-- One delta fewer than samples (R99). -/
theorem deltas_length (smp : List Byte) : (deltas smp).length = smp.length - 1 := by
  induction smp with
  | nil => rfl
  | cons a rest ih =>
    cases rest with
    | nil => rfl
    | cons b rest => simp only [deltas, List.length_cons] at ih ⊢; omega

/-- Delta `i` is the exact difference of samples `i + 1` and `i` (R99). -/
theorem deltas_getElem? (smp : List Byte) (i : Nat) (h : i + 1 < smp.length) :
    (deltas smp)[i]? = some ((smp[i + 1].toNat : Int) - smp[i].toNat) := by
  induction smp generalizing i with
  | nil => simp at h
  | cons a rest ih =>
    cases rest with
    | nil => simp at h
    | cons b rest =>
      cases i with
      | zero => simp [deltas]
      | succ i =>
        have := ih i (by simpa using h)
        rw [deltas, List.getElem?_cons_succ, this]
        rfl

/-- One table bit for each delta. -/
theorem upperBits_length (p : ZonePlan) (d : List Int) (i : Nat) : (upperBits p d i).length = d.length := by
  induction d generalizing i with
  | nil => rfl
  | cons d ds ih => simp [upperBits, ih]

/-- The table bits are the delta bits and the trailing bit (R107, R108). -/
theorem tableBits_length (p : ZonePlan) (d : List Int) : (tableBits p d).length = d.length + 1 := by
  simp [tableBits, upperBits_length]

/-- The reconstruction over `n` further samples has `n + 1` values. -/
theorem reconFrom_length (r : RegisterSet) (n k : Nat) (v : Int) : (reconFrom r n k v).length = n + 1 := by
  induction n generalizing k v with
  | zero => rfl
  | succ n ih => simp [reconFrom, ih]

/-- RECON answers 256 integers (R119). -/
theorem recon_length (r : RegisterSet) : (recon r).length = 256 := reconFrom_length r _ _ _

/-- The reconstruction starts at its start value. -/
theorem reconFrom_head (r : RegisterSet) (n k : Nat) (v : Int) : (reconFrom r n k v).getD 0 0 = v := by
  cases n <;> rfl

/-- Each value of a reconstruction is the one before it plus the encoded delta. -/
theorem reconFrom_step (r : RegisterSet) (n k j : Nat) (v : Int) (h : j < n) :
    (reconFrom r n k v).getD (j + 1) 0 = (reconFrom r n k v).getD j 0 + r.delta (k + j) := by
  induction n generalizing k v j with
  | zero => omega
  | succ n ih =>
    cases j with
    | zero =>
      have := reconFrom_head r n (k + 1) (v + r.delta k)
      simpa [reconFrom] using this
    | succ j =>
      have := ih (k + 1) j (v + r.delta k) (by omega)
      simpa [reconFrom, Nat.add_assoc, Nat.add_comm 1 j] using this

/-- `r[0]` is START_SIN (R119). -/
theorem reconAt_zero (r : RegisterSet) : reconAt r 0 = r.startSin.toNat := reconFrom_head r _ _ _

/-- `r[k+1]` is `r[k]` plus the delta that zone and table bit encode (R119). -/
theorem reconAt_succ (r : RegisterSet) (k : Nat) (h : k < 255) : reconAt r (k + 1) = reconAt r k + r.delta k := by
  have := reconFrom_step r 255 0 k r.startSin.toNat h
  simpa [reconAt, recon] using this

/-- The two ways a completion ends (R95). -/
theorem State.complete_cases (s : State) :
    (∃ o, s.encodeOutcome = .success o ∧ s.complete = (s.commitSuccess o).endEncode) ∨
      (∃ o, s.encodeOutcome = .error o ∧ s.complete = (s.commitError o).endEncode) := by
  unfold State.complete State.commit
  split
  · exact .inl ⟨_, ‹_›, rfl⟩
  · exact .inr ⟨_, ‹_›, rfl⟩

/-- A completion leaves the input state, the window index and the model's fields alone (R95, R114, R128). -/
theorem State.complete_frame (s : State) :
    s.complete.smp = s.smp ∧ s.complete.scount = s.scount ∧ s.complete.rangeFlag = s.rangeFlag ∧
      s.complete.wrIgnored = s.wrIgnored ∧ s.complete.winIdx = s.winIdx ∧ s.complete.response = s.response ∧
      s.complete.events = s.events ∧ s.complete.resets = s.resets := by
  rcases s.complete_cases with ⟨o, -, h⟩ | ⟨o, -, h⟩ <;> simp [h]

end Sys2Proof.Machine
end

