-- ==== Sys2Proof/Laws/PerInstr.lean ====
section
/-! SUPPORT. The family of statements made per instruction. -/

namespace Sys2Proof.Laws.EncodedDirection

/-- The word of a transaction says by its WE bit whether it is a read (R56). -/
def Statement (i : Instr) : Prop := TransactionWord.we (encode i) = !Machine.isRead i

theorem rdCtrl : Statement (.rdCtrl) := transactionWord_we _ _ _
theorem wrCtrlNop (wdata : Word) : Statement (.wrCtrlNop wdata) := transactionWord_we _ _ _
theorem wrCtrlStart (wdata : Word) : Statement (.wrCtrlStart wdata) := transactionWord_we _ _ _
theorem wrCtrlClear (wdata : Word) : Statement (.wrCtrlClear wdata) := transactionWord_we _ _ _
theorem rdStatus : Statement (.rdStatus) := transactionWord_we _ _ _
theorem wrStatus (wdata : Word) : Statement (.wrStatus wdata) := transactionWord_we _ _ _
theorem rdSampleData : Statement (.rdSampleData) := transactionWord_we _ _ _
theorem wrSampleData (wdata : Word) : Statement (.wrSampleData wdata) := transactionWord_we _ _ _
theorem rdDiag : Statement (.rdDiag) := transactionWord_we _ _ _
theorem wrDiag (wdata : Word) : Statement (.wrDiag wdata) := transactionWord_we _ _ _
theorem rdErrinfo : Statement (.rdErrinfo) := transactionWord_we _ _ _
theorem wrErrinfo (wdata : Word) : Statement (.wrErrinfo wdata) := transactionWord_we _ _ _
theorem rdMslut (n : BitVec 3) : Statement (.rdMslut n) := transactionWord_we _ _ _
theorem wrMslut (n : BitVec 3) (wdata : Word) : Statement (.wrMslut n wdata) := transactionWord_we _ _ _
theorem rdMslutsel : Statement (.rdMslutsel) := transactionWord_we _ _ _
theorem wrMslutsel (wdata : Word) : Statement (.wrMslutsel wdata) := transactionWord_we _ _ _
theorem rdMslutstart : Statement (.rdMslutstart) := transactionWord_we _ _ _
theorem wrMslutstart (wdata : Word) : Statement (.wrMslutstart wdata) := transactionWord_we _ _ _
theorem rdWinIdx : Statement (.rdWinIdx) := transactionWord_we _ _ _
theorem wrWinIdx (wdata : Word) : Statement (.wrWinIdx wdata) := transactionWord_we _ _ _
theorem rdReconData : Statement (.rdReconData) := transactionWord_we _ _ _
theorem wrReconData (wdata : Word) : Statement (.wrReconData wdata) := transactionWord_we _ _ _
theorem rdOrigData : Statement (.rdOrigData) := transactionWord_we _ _ _
theorem wrOrigData (wdata : Word) : Statement (.wrOrigData wdata) := transactionWord_we _ _ _
theorem buserr (we : Bool) (addr : Byte) : Statement (.buserr we addr) :=
  (transactionWord_we we addr 0).trans (Bool.not_not we).symm

end Sys2Proof.Laws.EncodedDirection
end

