-- ==== Sys2Proof/Laws/Script.lean ====
section
/-! SUPPORT. What the host's own moves leave alone, and when the host's turn reaches the block. -/

namespace Sys2Proof.Machine

/-- Going to a place changes no variable. -/
@[simp] theorem HostState.goTo_vars (h : HostState) (p : Option Nat) : (h.goTo p).vars = h.vars := by
  cases p <;> rfl

/-- Going to a place acknowledges no START. -/
@[simp] theorem HostState.goTo_awaiting (h : HostState) (p : Option Nat) : (h.goTo p).awaiting = h.awaiting := by
  cases p <;> rfl

/-- The host's own move changes no variable (R65). -/
@[simp] theorem HostState.move_vars (code : List HostOp) (h : HostState) (op : HostOp) :
    (h.move code op).vars = h.vars := by
  unfold HostState.move
  split <;> (try split) <;> (try split) <;> simp

/-- The host's own move acknowledges no START: only a STATUS read does (R159). -/
@[simp] theorem HostState.move_awaiting (code : List HostOp) (h : HostState) (op : HostOp) :
    (h.move code op).awaiting = h.awaiting := by
  unfold HostState.move
  split <;> (try split) <;> (try split) <;> simp

/-- A turn of a host that issues no further transaction leaves the block alone (R65, R159). -/
theorem hostTurn_of_issuesNoMore (code : List HostOp) (fuel : Nat) (h : HostState) (s : State)
    (hi : issuesMore code (fuel + 1) h = false) : (hostTurn code h s).2 = s := by
  unfold issuesMore at hi
  unfold hostTurn
  split at hi
  · simp [*]
  · rename_i hs
    simp only [hs]
    split at hi
    · simp [*]
    · cases hi
    · split <;> simp_all

/-! ### The look-ahead of `runEnded` is long enough -/

/-- Two hosts at one place with the same variables. -/
def HostState.Alike (h k : HostState) : Prop := h.pos = k.pos ∧ h.vars = k.vars ∧ h.stuck = k.stuck

/-- Alike hosts move alike. -/
theorem HostState.Alike.move {h k : HostState} (a : h.Alike k) (code : List HostOp) (op : HostOp) :
    (h.move code op).Alike (k.move code op) := by
  obtain ⟨hp, hv, hs⟩ := a
  have hgo : ∀ d, (h.goTo d).Alike (k.goTo d) := by
    intro d; cases d <;> simp [HostState.Alike, HostState.goTo, hp, hv, hs]
  cases op with
  | issue tw dst => exact ⟨hp, hv, hs⟩
  | mark l => simp [HostState.Alike, HostState.move, hp, hv, hs]
  | jump d => simpa [HostState.move, hp] using hgo _
  | branch x bit value d =>
    simp only [HostState.move, HostState.var, hp, hv]
    split
    · exact ⟨rfl, rfl, rfl⟩
    · split
      · exact hgo _
      · simp [HostState.Alike, hs]
  | check x term =>
    have ht : h.term term = k.term term := by cases term <;> simp [HostState.term, HostState.var, hv]
    simp only [HostState.move, HostState.var, hv, ht]
    split <;> simp [HostState.Alike, hp, hs]

/-- Alike hosts issue a further transaction alike. -/
theorem issuesMore_alike (code : List HostOp) (n : Nat) {h k : HostState} (a : h.Alike k) :
    issuesMore code n h = issuesMore code n k := by
  induction n generalizing h k with
  | zero => rfl
  | succ n ih =>
    simp only [issuesMore, a.1, a.2.2]
    split
    · rfl
    · split
      · rfl
      · rfl
      · exact ih (a.move code _)

/-- A longer look-ahead finds what a shorter one finds. -/
theorem issuesMore_mono (code : List HostOp) {n m : Nat} (hnm : n ≤ m) {h : HostState}
    (hi : issuesMore code n h = true) : issuesMore code m h = true := by
  induction n generalizing m h with
  | zero => cases hi
  | succ n ih =>
    obtain ⟨m, rfl⟩ : ∃ j, m = j + 1 := ⟨m - 1, by omega⟩
    simp only [issuesMore] at hi ⊢
    split at hi
    · cases hi
    · split at hi
      · cases hi
      · simp [*]
      · simp_all

/-- A host that issues a further transaction stands on an operation, and is not stuck. -/
theorem issuesMore_stands (code : List HostOp) {n : Nat} {h : HostState} (hi : issuesMore code n h = true) :
    h.pos < code.length ∧ h.stuck = false := by
  cases n with
  | zero => cases hi
  | succ n =>
    simp only [issuesMore] at hi
    split at hi
    · cases hi
    · rename_i hs
      refine ⟨?_, by simpa using hs⟩
      by_contra hp
      rw [List.getElem?_eq_none (by omega)] at hi
      cases hi

/-- A transaction found no sooner than after `n + 1` looks has, for each `j` up to `n`, a place on the way from which it
is found after `j + 1` looks and no sooner. -/
theorem issuesMore_levels (code : List HostOp) {n : Nat} {h : HostState} (hi : issuesMore code (n + 1) h = true)
    (hn : issuesMore code n h = false) (j : Nat) (hj : j ≤ n) :
    ∃ k : HostState, k.vars = h.vars ∧ issuesMore code (j + 1) k = true ∧ issuesMore code j k = false := by
  induction n generalizing h with
  | zero => exact ⟨h, rfl, by simpa [show j = 0 by omega] using hi, by simpa [show j = 0 by omega] using hn⟩
  | succ n ih =>
    rcases Nat.lt_or_eq_of_le hj with hlt | rfl
    · rw [issuesMore] at hi hn
      split at hi
      · cases hi
      · rename_i hs
        split at hi
        · cases hi
        · simp_all
        · rename_i op _ ho
          simp only [hs, ho] at hn
          obtain ⟨k, hv, hk⟩ := ih hi (by simpa using hn) (by omega)
          exact ⟨k, by simpa using hv, hk⟩
    · exact ⟨h, rfl, hi, hn⟩

/-- A look-ahead as long as the code finds every transaction that any look-ahead finds: no two places on the shortest
way to it are the same. -/
theorem issuesMore_length (code : List HostOp) (n : Nat) (h : HostState) (hi : issuesMore code n h = true) :
    issuesMore code code.length h = true := by
  obtain ⟨m, hm, hleast⟩ : ∃ m, issuesMore code (m + 1) h = true ∧ issuesMore code m h = false := by
    induction n with
    | zero => cases hi
    | succ n ih =>
      cases hp : issuesMore code n h with
      | true => exact ih hp
      | false => exact ⟨n, hi, hp⟩
  choose k hv hk hk' using fun j : Fin (m + 1) => issuesMore_levels code hm hleast j.val (by omega)
  have hinj : Function.Injective fun j => (⟨(k j).pos, (issuesMore_stands code (hk j)).1⟩ : Fin code.length) := by
    have key : ∀ i j : Fin (m + 1), (k i).pos = (k j).pos → ¬i.val < j.val := by
      intro i j hp hij
      have a : (k i).Alike (k j) := ⟨hp, by rw [hv, hv],
        by rw [(issuesMore_stands code (hk i)).2, (issuesMore_stands code (hk j)).2]⟩
      have := issuesMore_mono code (m := j.val) hij ((issuesMore_alike code _ a) ▸ hk i)
      rw [hk' j] at this
      cases this
    intro i j hij
    have hp : (k i).pos = (k j).pos := by simpa using hij
    have h1 := key i j hp
    have h2 := key j i hp.symm
    exact Fin.ext (by omega)
  have hcard := Fintype.card_le_of_injective _ hinj
  simp only [Fintype.card_fin] at hcard
  exact issuesMore_mono code hcard hm

/-- A turn of a host whose run has ended leaves the block alone (R65, R159). -/
theorem hostTurn_of_runEnded (code : List HostOp) (h : HostState) (s : State) (he : runEnded code h = true) :
    (hostTurn code h s).2 = s := by
  refine hostTurn_of_issuesNoMore code code.length h s ?_
  rw [Bool.eq_false_iff]
  intro hi
  simp [runEnded, issuesMore_length code _ h hi] at he

end Sys2Proof.Machine
end

