-- ==== Sys2Proof/Tests/Slice0.lean ====
section
/-! SUPPORT. Small tests of the model against words and values written out from the spec (spec/95_test_vectors.md unless
a comment says otherwise), the smoke test of WellFormed, and a witness for the hypotheses of each statement. -/

-- One theorem at a time: the evaluations below are many, and side by side they take more memory than the check gives.
set_option Elab.async false

namespace Sys2Proof.Machine.Tests

/-! ### WellFormed: one ill-formed term for each check -/

theorem test_wf_refuses_nop_with_start_bit : (Instr.wrCtrlNop 1).wf = false := by decide
theorem test_wf_refuses_start_with_clear_bit : (Instr.wrCtrlStart 3).wf = false := by decide
theorem test_wf_refuses_clear_without_clear_bit : (Instr.wrCtrlClear 1).wf = false := by decide
theorem test_wf_refuses_buserr_of_a_mapped_offset : (Instr.buserr false 0x3C).wf = false := by decide

/-! ### Host statements: one ill-formed statement for each check (R63, R65, R66) -/

theorem test_script_wf_refuses :
    (HostStmt.wr (.reg .ctrl) (2 ^ 32)).wf = false ∧ (HostStmt.expect "x" (.value (-(2 ^ 31) - 1))).wf = false ∧
      (HostStmt.ifGoto "s" 32 true "l").wf = false ∧ (HostStmt.load [1]).wf = false ∧
      (HostStmt.load (2 ^ 32 :: List.replicate 255 0)).wf = false ∧
      (HostStmt.readset ["a"] "sel" "st").wf = false ∧ (HostStmt.peek (2 ^ 32) "r").wf = false ∧
      (HostStmt.orig (2 ^ 32) "o").wf = false := by decide +kernel

theorem test_script_wf_accepts :
    (HostStmt.wr (.reg .sampleData) (2 ^ 32 - 1)).wf = true ∧ (HostStmt.expect "x" (.value (-(2 ^ 31)))).wf = true ∧
      (HostStmt.expect "st2" (.var "st")).wf = true ∧ (HostStmt.ifGoto "s" 31 true "l").wf = true := by decide

/-! ### Decoding: words written bit by bit from R56 and the rows of the table (WE, ADDR, WDATA) -/

theorem test_decode_ctrl :
    decode 0b0_00000000_00000000000000000000000000000000 = .rdCtrl ∧
    decode 0b1_00000000_11111111111111111111111111111100 = .wrCtrlNop 0xFFFFFFFC ∧
    decode 0b1_00000000_11111111111111111111111111111101 = .wrCtrlStart 0xFFFFFFFD ∧
    decode 0b1_00000000_00000000000000000000000000000010 = .wrCtrlClear 2 ∧
    decode 0b1_00000000_00000000000000000000000000000011 = .wrCtrlClear 3 := by decide

theorem test_decode_status :
    decode 0b0_00000100_00000000000000000000000000000101 = .rdStatus ∧
    decode 0b1_00000100_11111111111111111111111111111111 = .wrStatus 0xFFFFFFFF := by decide

theorem test_decode_sample_data :
    decode 0b0_00001000_00000000000000000000000000000000 = .rdSampleData ∧
    decode 0b1_00001000_00000000000000000000000001100100 = .wrSampleData 100 := by decide

theorem test_decode_diag_and_errinfo :
    decode 0b0_00001100_00000000000000000000000000000000 = .rdDiag ∧
    decode 0b1_00001100_00000000000000000000000000000000 = .wrDiag 0 ∧
    decode 0b0_00010000_00000000000000000000000000000000 = .rdErrinfo ∧
    decode 0b1_00010000_00000000000000000000000000000001 = .wrErrinfo 1 := by decide

theorem test_decode_register_set :
    decode 0b0_00111100_00000000000000000000000000000000 = .rdMslut 7 ∧
    decode 0b1_00111100_00010010001101000101011001111000 = .wrMslut 7 0x12345678 ∧
    decode 0b0_01000000_00000000000000000000000000000000 = .rdMslutsel ∧
    decode 0b1_01000000_00000000000000000000000000000000 = .wrMslutsel 0 ∧
    decode 0b0_01000100_00000000000000000000000000000000 = .rdMslutstart ∧
    decode 0b1_01000100_00000000000000000000000000000101 = .wrMslutstart 5 := by decide

theorem test_decode_window :
    decode 0b0_01010000_00000000000000000000000000000000 = .rdWinIdx ∧
    decode 0b1_01010000_00000000000000000000000111111111 = .wrWinIdx 0x1FF ∧
    decode 0b0_01010100_00000000000000000000000000000000 = .rdReconData ∧
    decode 0b1_01010100_00000000000000000000000000000011 = .wrReconData 3 ∧
    decode 0b0_01011000_00000000000000000000000000000000 = .rdOrigData ∧
    decode 0b1_01011000_00000000000000000000000000001001 = .wrOrigData 9 := by decide

theorem test_decode_buserr :
    decode 0b0_00000110_00000000000000000000000000000000 = .buserr false 0x06 ∧
    decode 0x00500000000 = .buserr false 0x05 ∧ decode 0x01400000000 = .buserr false 0x14 ∧
    decode 0x14800000000 = .buserr true 0x48 ∧ decode 0x05C00000000 = .buserr false 0x5C ∧
    decode 0x0FC00000000 = .buserr false 0xFC ∧ decode 0x1FFFFFFFFFC = .buserr true 0xFF := by decide

theorem test_decode_refuses_a_number_of_42_bits :
    decodeNumber (2 ^ 41) = .error .widerThanTransactionWord := by decide

theorem test_decodeTableWord : decodeTableWord 48 0x10800000064 = some (.wrSampleData 100) := by decide

/-! ### One transaction each -/

/-- The state a transaction leads to. -/
def after (i : Instr) (s : State) : State :=
  match exec i s with
  | .next t => t
  | .fault _ => s
  | .refused _ => s

/-- The read data a transaction returns. -/
def data (i : Instr) (s : State) : Option Word := (after i s).response.bind Response.rdata

/-- A state with an encode pending: 256 samples counted, as row B1. -/
def pending : State := { State.reset with scount := 256, busy := true }

/-- The results of the sine scenario (L1-1). -/
def sineResult : State :=
  { State.reset with
    scount := 256, valid := true, diag := ⟨94, 2, 247⟩,
    regs := ⟨#v[0x55555AAA, 0xA54AAA55, 0x12249494, 0x08082111, 0xFC000000, 0x5ADDBBBE, 0x2494AAAB, 0x00202111],
      0xFFFF9956, 0, 247⟩ }

theorem test_rdCtrl : data .rdCtrl pending = some 0 := by decide
theorem test_wrCtrlNop : (after (.wrCtrlNop 0xFFFFFFFC) State.reset).statusWord = 0 := by decide
theorem test_wrCtrlStart : (after (.wrCtrlStart 1) sineResult).statusWord = 0x01000001 := by decide
theorem test_wrCtrlStart_busy : (after (.wrCtrlStart 1) pending).statusWord = 0x01000011 := by decide
theorem test_wrCtrlClear :
    (after (.wrCtrlClear 3) { sineResult with wrIgnored := true, rangeFlag := true }).statusWord = 2 := by decide
theorem test_wrCtrlClear_busy : (after (.wrCtrlClear 2) pending).statusWord = 0x01000011 := by decide
theorem test_rdStatus : data .rdStatus sineResult = some 0x01000002 := by decide
theorem test_rdStatus_error :
    data .rdStatus { State.reset with scount := 257, error := true, errcode := .shape } = some 0x01010104 := by decide
theorem test_wrStatus : (after (.wrStatus 0xFFFFFFFF) sineResult).statusWord = 0x01000002 := by decide
theorem test_rdSampleData : data .rdSampleData sineResult = some 0 := by decide
theorem test_wrSampleData_minus_one :
    (after (.wrSampleData 0xFFFFFFFF) State.reset).smp = [(0, 0xFF)] ∧
      (after (.wrSampleData 0xFFFFFFFF) State.reset).statusWord = 0x00010020 := by decide
theorem test_wrSampleData_saturates :
    (after (.wrSampleData 7) { State.reset with scount := 256 }).smp = [] ∧
      (after (.wrSampleData 7) { State.reset with scount := 257 }).statusWord = 0x01010000 := by decide
theorem test_rdDiag : data .rdDiag sineResult = some 0x00F7025E := by decide
theorem test_wrDiag : (after (.wrDiag 0) sineResult).diag.word = 0x00F7025E := by decide
theorem test_rdErrinfo : data .rdErrinfo { State.reset with errinfo := ⟨0, true, true⟩ } = some 0x00030000 := by decide
theorem test_wrErrinfo : (after (.wrErrinfo 1) State.reset).errinfo = .zero := by decide
theorem test_rdMslut : data (.rdMslut 3) sineResult = some 0x08082111 := by decide
theorem test_wrMslut : (after (.wrMslut 7 0xFFFFFFFF) State.reset).regs = .zero := by decide
theorem test_rdMslutsel : data .rdMslutsel sineResult = some 0xFFFF9956 := by decide
theorem test_wrMslutsel : (after (.wrMslutsel 0) sineResult).regs.mslutsel = 0xFFFF9956 := by decide
theorem test_rdMslutstart : data .rdMslutstart sineResult = some 0x00F70000 := by decide
theorem test_wrMslutstart : (after (.wrMslutstart 5) sineResult).regs.mslutstart = 0x00F70000 := by decide
theorem test_rdWinIdx : data .rdWinIdx (after (.wrWinIdx 0x1FF) State.reset) = some 0xFF := by decide
theorem test_wrWinIdx_busy : (after (.wrWinIdx 9) pending).winIdx = 9 ∧
    (after (.wrWinIdx 9) pending).wrIgnored = false := by decide
theorem test_rdReconData_sine :
    data .rdReconData { sineResult with winIdx := 153 } = some 200 ∧
      data .rdReconData { sineResult with winIdx := 255 } = some 247 := by decide +kernel
theorem test_rdReconData_empty : data .rdReconData { State.reset with winIdx := 255 } = some 0xFFFFFF01 := by
  decide +kernel
theorem test_wrReconData : (after (.wrReconData 3) sineResult).winIdx = 0 := by decide
theorem test_rdOrigData : data .rdOrigData { State.reset with smp := [(2, 0xFF)], winIdx := 2 } = some 0xFF := by
  decide
theorem test_wrOrigData : (after (.wrOrigData 9) { State.reset with smp := [(0, 3)] }).smp = [(0, 3)] := by decide
theorem test_buserr_busy : (after (.buserr true 0x48) pending).response = some ⟨.buserr, some 0⟩ ∧
    (after (.buserr true 0x48) pending).wrIgnored = false := by decide

/-- The little-endian byte lanes of a word (R42). -/
theorem test_byteLane : byteLane 0x12345678 0 = 0x78 ∧ byteLane 0x12345678 3 = 0x12 := by decide

/-! ### The engine -/

/-- The 256 samples of the sine scenario (L1-1), from the samples of its first half. -/
def sineSamples : List Byte :=
  ([0, 1, 3, 4, 6, 7, 9, 10, 12, 13, 15, 16, 18, 20, 21, 23, 24, 26, 27, 29, 30, 32, 33, 35, 36, 38, 39, 41, 42, 44,
    45, 47, 48, 50, 51, 53, 54, 56, 57, 59, 60, 61, 63, 64, 66, 67, 69, 70, 72, 73, 75, 76, 78, 79, 80, 82, 83, 85,
    86, 88, 89, 90, 92, 93] : List Byte) ++
  [95, 96, 97, 99, 100, 102, 103, 104, 106, 107, 108, 110, 111, 113, 114, 115, 117, 118, 119, 121, 122, 123, 125, 126,
    127, 128, 130, 131, 132, 134, 135, 136, 137, 139, 140, 141, 142, 144, 145, 146, 147, 149, 150, 151, 152, 153, 155,
    156, 157, 158, 159, 160, 162, 163, 164, 165, 166, 167, 168, 169, 171, 172, 173, 174] ++
  [175, 176, 177, 178, 179, 180, 181, 182, 183, 184, 185, 186, 187, 188, 189, 190, 191, 192, 193, 194, 195, 196, 197,
    198, 199, 200, 200, 201, 202, 203, 204, 205, 206, 206, 207, 208, 209, 210, 211, 211, 212, 213, 214, 214, 215, 216,
    217, 217, 218, 219, 219, 220, 221, 222, 222, 223, 224, 224, 225, 225, 226, 227, 227, 228] ++
  [228, 229, 230, 230, 231, 231, 232, 232, 233, 233, 234, 234, 235, 235, 236, 236, 237, 237, 237, 238, 238, 239, 239,
    239, 240, 240, 240, 241, 241, 241, 242, 242, 242, 243, 243, 243, 243, 244, 244, 244, 244, 245, 245, 245, 245, 245,
    246, 246, 246, 246, 246, 246, 246, 246, 247, 247, 247, 247, 247, 247, 247, 247, 247, 247]

/-- E1: the sine scenario encodes to the registers of L1-1. -/
theorem test_encode_sine :
    encodeWaveform sineSamples 256 false = .success ⟨sineResult.regs, 94, 2, 247, false⟩ := by decide +kernel

/-- The deltas 0, 3, 0, 3, 0 need a fifth zone at index 4 (E16). -/
theorem test_zone_scan_pattern : scanZones [0, 3, 0, 3, 0] = .error 4 := by decide

/-- The zones of E9 and E10 in small: 1s between a {1,2} region and a {0,1} region stay in the earlier zone (R117). -/
theorem test_zone_scan_boundary : scanZones [2, 1, 1, 0, 1, 3] = .ok [⟨0, 1⟩, ⟨3, 0⟩, ⟨5, 2⟩] := by decide

/-- A zone of all 1s or of all 2s takes the lower base (R103). -/
theorem test_zone_scan_tie_break : scanZones [1, 1] = .ok [⟨0, 0⟩] ∧ scanZones [2, 2] = .ok [⟨0, 1⟩] := by decide

/-- E-S4: an encode with no samples ends in SHAPE. -/
theorem test_complete_shape :
    { State.reset with busy := true }.complete.statusWord = 0x00000104 ∧
      { State.reset with busy := true }.complete.errinfo.word = 0x00010000 := by decide

/-- P5: the host script ends with the responses and the state the spec gives. -/
def scriptP5 : Script :=
  .stmt (.rd (.raw 0x14) (some "x")) (.stmt .start (.stmt (.wait "s") (.stmt (.rd (.reg .errinfo) (some "e")) .done)))

theorem test_script_empty_encode :
    let r := runScript scriptP5.code [false, false, false, false, true, false, false, false] .init .reset
    runEnded scriptP5.code r.1 = true ∧ r.1.var "x" = some 0 ∧ r.1.var "s" = some 0x00000104 ∧
      r.1.var "e" = some 0x00010000 := by decide +kernel

/-- The last lines of P1 in small: an `expect` of a variable against a variable, which holds, and one that fails. -/
def scriptExpect : Script :=
  .stmt (.rd (.reg .mslutstart) (some "st")) (.stmt (.rd (.reg .mslutstart) (some "st2"))
    (.stmt (.expect "st2" (.var "st")) (.stmt (.expect "st2" (.value 1)) .done)))

theorem test_script_expect :
    scriptExpect.wf = true ∧ (runScript scriptExpect.code [false, false, false] .init sineResult).1.failed = false ∧
      (runScript scriptExpect.code [false, false, false, false] .init sineResult).1.failed = true := by decide +kernel

/-- The run has ended with its last transaction, though two `expect` statements are left (R159). -/
theorem test_run_ends_with_the_last_transaction :
    runEnded scriptExpect.code (runScript scriptExpect.code [false] .init sineResult).1 = false ∧
      runEnded scriptExpect.code (runScript scriptExpect.code [false, false] .init sineResult).1 = true := by
  decide +kernel

/-- The end of P5: a poll that reads BUSY = 1 does not end the run, one that reads BUSY = 0 does (R159). -/
theorem test_run_ends_with_the_poll :
    let code := (Script.stmt (.wait "s") .done).code
    let h : HostState := { HostState.init with awaiting := true }
    let s : State := { State.reset with busy := true }
    runEnded code (runScript code [false] h s).1 = false ∧
      runEnded code (runScript code [false, false, true, false] h s).1 = true := by decide +kernel

/-- A repeat body with a branch to its own label: each repetition branches inside its own copy (R65). -/
def scriptRepeat : Script :=
  .rep 2 (.stmt (.wr (.reg .sampleData) 1) (.stmt (.goto "l") (.stmt (.wr (.reg .sampleData) 9)
    (.stmt (.label "l") .done)))) .done

theorem test_script_repeat :
    let r := runScript scriptRepeat.code (List.replicate 6 false) .init .reset
    runEnded scriptRepeat.code r.1 = true ∧ r.2.smp = [(0, 1), (1, 1)] := by decide +kernel

/-! ### Witnesses: states and operands that meet the hypotheses of the statements -/

/-- A step that answers a next state, as the hypothesis of a statement. -/
def Steps (s : State) : Prop := ∃ t, step s = .next t

/-- The state after reset with the given events ahead. -/
def ahead (es : List Event) : State := { State.reset with events := es }

theorem witness_DecodeOfEncode :
    (Instr.wrMslut 7 0xFFFFFFFF).wf = true ∧ (Instr.buserr true 0xFF).wf = true ∧
      (Instr.wrCtrlNop 0xFFFFFFFC).wf = true ∧ (Instr.wrCtrlStart 0xFFFFFFFD).wf = true ∧
      (Instr.wrCtrlClear 3).wf = true := by decide

theorem witness_BusError : ∀ a ∈ ([0x01, 0xFF, 0x14, 0x5C, 0x60, 0xFC] : List Byte),
    a.extractLsb' 0 2 ≠ 0#2 ∨ a ∈ ([0x14, 0x18, 0x1C, 0x48, 0x4C, 0x5C] : List Byte) ∨ 0x60 ≤ a.toNat := by decide

theorem witness_StepPerforms : (ahead [.transaction 0x10800000064]).events = .transaction 0x10800000064 :: [] := rfl

theorem witness_StepCompletes :
    (pending.withEvents [.engine]).events = [.engine] ∧ pending.busy = true ∧ pending.events = [] ∧
      State.reset.busy = false ∧ State.reset.events = [] := ⟨rfl, rfl, rfl, rfl, rfl⟩

theorem witness_StateAfterReset :
    (pending.withEvents [.reset, .engine]).events = .reset :: [.engine] ∧
      step (pending.withEvents [.reset, .engine]) = .next ({ pending with events := [.engine] }.assertReset) :=
  ⟨rfl, rfl⟩

/-- A `load` with the least, the greatest and 254 ordinary values. -/
theorem witness_Load : (HostStmt.load (-(2 ^ 31) :: (2 ^ 32 - 1) :: List.replicate 254 100)).wf = true := by
  decide +kernel

theorem witness_PeekAndOrig : (HostStmt.peek 255 "r").wf = true ∧ (HostStmt.peek (-(2 ^ 31)) "r").wf = true ∧
    (HostStmt.orig (2 ^ 32 - 1) "o").wf = true := by decide

theorem witness_Reset : (pending.withEvents [.reset, .engine]).events = .reset :: [.engine] := rfl

theorem witness_ControlWrites :
    State.reset.busy = false ∧ pending.busy = true ∧ (0xFFFFFFFC : Word).extractLsb' 0 2 = 0b00#2 ∧
      (0xFFFFFFFD : Word).extractLsb' 0 2 = 0b01#2 ∧ (2 : Word).getLsbD 1 = true ∧ (3 : Word).getLsbD 1 = true := by
  decide

theorem witness_SampleWrite :
    { State.reset with scount := 255 }.busy = false ∧ { State.reset with scount := 256 }.busy = false ∧
      { State.reset with scount := 257 }.busy = false ∧ pending.busy = true := ⟨rfl, rfl, rfl, rfl⟩

theorem witness_GatedRows : pending.busy = true := rfl

/-- A pending encode with the next slot the last one, and with a full buffer. -/
theorem witness_CompletionFalls :
    { pending with scount := 255 }.busy = true ∧ pending.busy = true ∧ pending.scount.toNat = 256 := by decide

theorem witness_OtherRows (w : Word) :
    Instr.rdStatus ≠ .wrCtrlNop w ∧ Instr.rdStatus ≠ .wrCtrlStart w ∧ Instr.rdStatus ≠ .wrCtrlClear w ∧
      Instr.rdStatus ≠ .wrSampleData w ∧ exec .rdStatus pending = .next (after .rdStatus pending) :=
  ⟨nofun, nofun, nofun, nofun, rfl⟩

theorem witness_Reads : exec (decode (transactionWord false 0x54 0)) sineResult = .next (after .rdReconData sineResult) ∧
    exec (decode (transactionWord false 0x05 0)) pending = .next (after (.buserr false 0x05) pending) := ⟨rfl, rfl⟩

theorem witness_NoTransaction : exec (.wrSampleData 5) sineResult = .next (after (.wrSampleData 5) sineResult) := rfl

/-- Every clause of the histories: no event, an engine turn, a reset, and transactions of each kind. -/
theorem witness_Histories :
    Steps pending ∧ Steps (pending.withEvents [.engine]) ∧ Steps (pending.withEvents [.reset]) ∧
      Steps (ahead [.transaction (encode (.wrSampleData 256))]) ∧ Steps (ahead [.transaction (encode (.wrCtrlClear 2))]) ∧
      Steps (ahead [.transaction (encode (.wrCtrlStart 1))]) ∧ Steps (ahead [.transaction (encode (.wrWinIdx 7))]) ∧
      Steps (pending.withEvents [.transaction (encode (.wrCtrlNop 0))]) ∧
      Steps (pending.withEvents [.transaction (encode .rdStatus)]) :=
  ⟨⟨_, rfl⟩, ⟨_, rfl⟩, ⟨_, rfl⟩, ⟨_, rfl⟩, ⟨_, rfl⟩, ⟨_, rfl⟩, ⟨_, rfl⟩, ⟨_, rfl⟩, ⟨_, rfl⟩⟩

/-- An accepted START, and a START that is ignored. -/
theorem witness_OnlyStart :
    Steps (ahead [.transaction 0x10000000001]) ∧ (0x10000000001 : TransactionWord).wdata.extractLsb' 0 2 = 0b01#2 ∧
      Steps (pending.withEvents [.transaction 0x10000000001]) := ⟨⟨_, rfl⟩, by decide, ⟨_, rfl⟩⟩

theorem witness_PendingEncode :
    (pending.withEvents (([0x10800000005, 0x10000000002] : List TransactionWord).map .transaction)).busy = true := rfl

/-- CLEAR, an idle engine turn and a status read: no reset and no START; then a START and a read of a result. -/
theorem witness_ResultsStay :
    let es : List Event := [.transaction 0x10000000002, .engine, .transaction 0x00400000000]
    let tws : List TransactionWord := [0x10000000001, 0x04000000000]
    (sineResult.withEvents (es ++ tws.map .transaction)).busy = false ∧
      (sineResult.withEvents (es ++ tws.map .transaction)).events = es ++ tws.map .transaction ∧ ∀ e ∈ es, e ≠ .reset ∧ ∀ tw, e = .transaction tw → ∀ w, decode tw ≠ .wrCtrlStart w := by
  refine ⟨rfl, rfl, fun e he => ?_⟩
  simp only [List.mem_cons, List.not_mem_nil, or_false] at he
  rcases he with rfl | rfl | rfl
  · refine ⟨nofun, fun tw h w => ?_⟩
    cases h
    rw [show decode 0x10000000002 = .wrCtrlClear 2 by decide]
    nofun
  · exact ⟨nofun, nofun⟩
  · refine ⟨nofun, fun tw h w => ?_⟩
    cases h
    rw [show decode 0x00400000000 = .rdStatus by decide]
    nofun

/-- A buffer of 256 samples of 100 with an encode pending (row B1). -/
def loaded : State := { pending with smp := (List.range 256).map fun k => (k, 100) }

theorem loaded_waveform : loaded.waveform = List.replicate 256 100 := by decide +kernel

theorem encode_all_100 : encodeWaveform (List.replicate 256 100) 256 false =
    .success ⟨⟨#v[0, 0, 0, 0, 0, 0, 0, 0], 0xFFFFFF55, 100, 100⟩, 0, 1, 100, false⟩ := by decide +kernel

/-- E11: one delta of 4, at index 99. -/
def stepWave : List Byte := List.replicate 100 0 ++ List.replicate 156 4

/-- E16: the deltas 0, 3, 0, 3, 0, … -/
def patternWave : List Byte := [0, 0, 3, 3, 6] ++ List.replicate 251 6

theorem encode_step : encodeWaveform stepWave 256 false = .error ⟨.step, 99, false, false, 4, false⟩ := by
  decide +kernel

theorem encode_pattern : encodeWaveform patternWave 256 false = .error ⟨.pattern, 4, false, false, 6, false⟩ := by
  decide +kernel

theorem witness_CompletionCommits :
    (∃ o, encodeWaveform loaded.waveform loaded.scount loaded.rangeFlag = .success o) ∧
      ∃ o, encodeWaveform State.reset.waveform State.reset.scount State.reset.rangeFlag = .error o :=
  ⟨⟨_, loaded_waveform ▸ encode_all_100⟩, ⟨_, rfl⟩⟩

theorem witness_ShapeError : (257#9).toNat ≠ 256 ∧ (256#9).toNat = 256 ∧
    ∃ o, encodeWaveform stepWave 256 false = .error o := ⟨by decide, by decide, _, encode_step⟩

theorem witness_Amplitude : stepWave.length = 256 ∧ (∃ o, encodeWaveform stepWave 256 false = .error o) ∧
    sineSamples.length = 256 ∧ ∃ o, encodeWaveform sineSamples 256 false = .success o :=
  ⟨by decide +kernel, ⟨_, encode_step⟩, by decide +kernel, ⟨_, test_encode_sine⟩⟩

/-- The bad delta at the first, the last and no index (E13, L1-5, L1-2). -/
theorem witness_StepError :
    let d : List Byte → Nat → Int := fun s i => ((s.getD (i + 1) 0).toNat : Int) - (s.getD i 0).toNat
    d (10 :: List.replicate 255 9) 0 < 0 ∧
      (3 < d (List.replicate 255 0 ++ [4]) 254 ∧ ∀ j, j < 254 → 0 ≤ d (List.replicate 255 0 ++ [4]) j ∧
        d (List.replicate 255 0 ++ [4]) j ≤ 3) ∧
      ∀ i, i < 255 → 0 ≤ d patternWave i ∧ d patternWave i ≤ 3 := by decide +kernel

/-- A waveform with three zones, from deltas 0, 2 and 3 on. -/
def threeZoneWave : List Byte := [0, 0, 1] ++ List.replicate 253 4

theorem witness_InternalError :
    stepWave.length = 256 ∧ (∃ o, encodeWaveform stepWave 256 false = .error o) ∧
      sineSamples.length = 256 ∧ (∃ o, encodeWaveform sineSamples 256 false = .success o) ∧
      threeZoneWave.length = 256 ∧ stepFailure (deltas threeZoneWave) 0 = none ∧
      scanZones (deltas threeZoneWave) = .ok [⟨0, 0⟩, ⟨2, 2⟩, ⟨3, 0⟩] :=
  ⟨by decide +kernel, ⟨_, encode_step⟩, by decide +kernel, ⟨_, test_encode_sine⟩, by decide +kernel,
    by decide +kernel, by decide +kernel⟩

theorem witness_TableBits : sineSamples.length = 256 ∧ ∃ o, encodeWaveform sineSamples 256 false = .success o :=
  ⟨by decide +kernel, _, test_encode_sine⟩

theorem witness_Bounded : 0 < 256 ∧ 255 < 256 := by decide

theorem witness_Masks : (2#3 : BitVec 3) ≠ 0 ∧ (0 : Int) ≤ 3 ∧ (3 : Int) ≤ 3 ∧ 2 < 3 := by decide

theorem witness_FourZones : sineSamples.length = 256 ∧ (∀ d ∈ deltas sineSamples, 0 ≤ d ∧ d ≤ 3) ∧
    patternWave.length = 256 ∧ ∀ d ∈ deltas patternWave, 0 ≤ d ∧ d ≤ 3 := by decide +kernel

/-- A success with two found zones and two filled ones, and deltas that a base covers. -/
theorem witness_GreedyZones :
    (∃ o, encodeWaveform sineSamples 256 false = .success o ∧ o.nz = 2) ∧ BaseCovers [0, 1, 3] 0 2 0 := by
  refine ⟨⟨_, test_encode_sine, rfl⟩, fun i v _ hi hv => ?_⟩
  match i, hi with
  | 0, _ => cases hv; decide
  | 1, _ => cases hv; decide

theorem witness_PatternError : patternWave.length = 256 ∧ ∃ o, encodeWaveform patternWave 256 false = .error o ∧
    o.code = .pattern := ⟨by decide +kernel, _, encode_pattern, rfl⟩

theorem witness_Packing : (List.replicate 256 true).length = 256 ∧ 31 < 32 ∧
    (deltas patternWave).length = 255 := by decide +kernel

theorem witness_ZoneMembership : (10#8).toNat ≤ (11#8).toNat ∧ (11#8).toNat ≤ (255#8).toNat := by decide

theorem witness_EmptyRegisterSet : (∀ n, State.reset.regs.mslutWord n = 0) ∧ State.reset.regs.mslutsel = 0 ∧
    State.reset.regs.mslutstart = 0 := by decide

/-- The completion of `loaded` is a success, whatever events lie ahead. -/
theorem loaded_completes (es : List Event) : (loaded.withEvents es).complete.valid = true := by
  have h : (loaded.withEvents es).encodeOutcome = encodeWaveform (List.replicate 256 100) 256 false :=
    loaded_waveform ▸ rfl
  rw [State.complete, h, encode_all_100]
  rfl

theorem witness_RoundTrip :
    let tws : List TransactionWord := [0x00400000000, 0x10000000002]
    (loaded.withEvents (tws.map .transaction)).complete.valid = true ∧
      (loaded.withEvents (tws.map .transaction)).events = tws.map .transaction ∧
      ∀ tw ∈ tws, ∀ v, decode tw ≠ .wrSampleData v := by
  refine ⟨loaded_completes _, rfl, fun tw h v => ?_⟩
  simp only [List.mem_cons, List.not_mem_nil, or_false] at h
  rcases h with rfl | rfl
  · rw [show decode 0x00400000000 = .rdStatus by decide]
    nofun
  · rw [show decode 0x10000000002 = .wrCtrlClear 2 by decide]
    nofun

theorem witness_FunctionOfTheWaveform :
    (∀ k, k < 256 → loaded.slot k = { loaded with winIdx := 9, wrIgnored := true }.slot k) ∧ loaded.scount = 256 ∧
      loaded.rangeFlag = false := ⟨fun _ _ => rfl, rfl, rfl⟩

theorem witness_SecondStart :
    (loaded.withEvents [.engine, .transaction 0x10000000001, .engine]).busy = true := rfl

theorem witness_Loading :
    (ahead (.transaction 0x10000000002 :: [5, 256].map fun w => .transaction (encode (.wrSampleData w)))).busy = false :=
  rfl

theorem witness_Protocol :
    (ahead (.transaction 0x10000000002 :: (sineSamples.map (fun v => .transaction (encode (.wrSampleData
      (v.zeroExtend 32)))) ++ [.transaction 0x10000000001, .engine]))).busy = false ∧ sineSamples.length = 256 :=
  ⟨rfl, by decide +kernel⟩

/-- An error state with a partly loaded buffer and an encode of it about to be started. -/
def afterError : State :=
  { State.reset with smp := [(0, 5)], scount := 1, error := true, errcode := .step, errinfo := ⟨99, false, false⟩,
                     events := [.transaction (encode (.wrCtrlStart 1))] }

theorem witness_ControlInvariant : afterError.ControlInv ∧ Steps afterError := by
  refine ⟨⟨by decide, by decide, ?_, by decide, by decide, by decide, by decide⟩, _, rfl⟩
  intro k hk _
  have : k = 0 := by
    have : afterError.scount.toNat = 1 := by decide
    omega
  subst this
  decide

/-- The sine result has the shape of a whole result: two found zones, the last two indices filled with 255. -/
theorem witness_ValidResult : ValidResult sineResult.regs sineResult.diag :=
  ⟨by decide, by decide, by decide, by decide, by decide, by decide, by decide, by decide, by decide +kernel,
    by decide +kernel, by decide⟩

theorem witness_ResultInvariant : afterError.ResultInv ∧ Steps afterError := by
  exact ⟨⟨.inl ⟨rfl, rfl, rfl⟩, fun h => absurd h (by decide), fun _ => ⟨rfl, rfl, rfl⟩, fun _ => by decide,
    by decide⟩, _, rfl⟩

end Sys2Proof.Machine.Tests
end

