-- ==== Sys2Proof/Proofs/Scope.lean ====
section
/-! PROOFS. What a transaction and a step can answer, and from it that no step stops (spec/00_scope.md R11). -/

namespace Sys2Proof.Machine

/-- Everything a transaction can answer: a read, a write with no effect, the write of WIN_IDX, one of the four gated
writes, or a bus error (R69, R132). The rows that write more than the response are named by their instruction. -/
inductive Reply (s : State) : Instr → Outcome → Prop where
  | read (i : Instr) (w : Word) : Reply s i (replyRead s w)
  | write (i : Instr) : Reply s i (replyWrite s)
  | window (w : Word) : Reply s (.wrWinIdx w) (replyWrite (s.selectWindow (windowIndex w)))
  | nop (w : Word) : Reply s (.wrCtrlNop w) (gatedWrite s s)
  | start (w : Word) : Reply s (.wrCtrlStart w) (gatedWrite s s.startEncode)
  | clear (w : Word) : Reply s (.wrCtrlClear w) (gatedWrite s s.clearInput)
  | sample (w : Word) : Reply s (.wrSampleData w) (gatedWrite s (s.acceptSample w))
  | busError (i : Instr) : Reply s i (busError s)

/-- The inversion of `exec`: every row of the table has its meaning, and each is one of the replies. -/
theorem exec_reply (i : Instr) (s : State) : Reply s i (exec i s) := by
  cases i with
  | rdCtrl | rdStatus | rdSampleData | rdDiag | rdErrinfo | rdMslut | rdMslutsel | rdMslutstart | rdWinIdx
  | rdReconData | rdOrigData => exact .read _ _
  | wrStatus | wrDiag | wrErrinfo | wrMslut | wrMslutsel | wrMslutstart | wrReconData | wrOrigData => exact .write _
  | wrWinIdx w => exact .window w
  | wrCtrlNop w => exact .nop w
  | wrCtrlStart w => exact .start w
  | wrCtrlClear w => exact .clear w
  | wrSampleData w => exact .sample w
  | buserr => exact .busError _

/-- No reply is a fault or a refusal: a transaction in error is answered, with BUSERR (R132, R135). -/
theorem Reply.answersNext {s : State} {i : Instr} {o : Outcome} (h : Reply s i o) : ∃ t, o = .next t := by
  cases h with
  | read | write | window | nop | start | clear | sample | busError => exact ⟨_, rfl⟩

theorem exec_answersNext (i : Instr) (s : State) : ∃ t, exec i s = .next t := (exec_reply i s).answersNext

/-! ### One step, by the event it takes -/

theorem step_idle {s : State} (h : s.events = []) : step s = .next s.engineTurn := by
  simp only [step, h]

theorem step_transaction {s : State} {tw : TransactionWord} {es : List Event} (h : s.events = .transaction tw :: es) :
    step s = exec (decode tw) (s.withEvents es) := by
  simp only [step, h]

theorem step_engine {s : State} {es : List Event} (h : s.events = .engine :: es) :
    step s = .next (s.withEvents es).engineTurn := by
  simp only [step, h]

theorem step_reset {s : State} {es : List Event} (h : s.events = .reset :: es) :
    step s = .next (s.withEvents es).assertReset := by
  simp only [step, h]

/-- Settles O12: of the four kinds of step only a transaction calls `exec`, and `exec` always answers. -/
theorem stepAlwaysAnswersNext : Obligations.StepAlwaysAnswersNext := by
  intro s
  match h : s.events with
  | [] => exact ⟨_, step_idle h⟩
  | .transaction tw :: es => simpa only [step_transaction h] using exec_answersNext (decode tw) (s.withEvents es)
  | .engine :: _ => exact ⟨_, step_engine h⟩
  | .reset :: _ => exact ⟨_, step_reset h⟩

end Sys2Proof.Machine
end

/-! PROOFS. The state of the block (spec/10_state.md): what each step can do to it, the invariant of the input and
status state, and the history of every flag and counter that follows from it. -/

namespace Sys2Proof.Machine

/-! ### The row of a word, by its direction and offset (R58) -/

theorem Register.offset_injective {q r : Register} (h : q.offset = r.offset) : q = r := by
  simpa only [registerAt_offset, Option.some.injEq] using congrArg registerAt h

theorem decode_read {tw : TransactionWord} {r : Register} (we : tw.we = false) (addr : r.offset = tw.addr) :
    decode tw = decodeRead r := by
  simp [decode, ← addr, we]

theorem decode_write {tw : TransactionWord} {r : Register} (we : tw.we = true) (addr : r.offset = tw.addr) :
    decode tw = decodeWrite r tw.wdata := by
  simp [decode, ← addr, we]

theorem decode_unmapped {tw : TransactionWord} (h : registerAt tw.addr = none) : decode tw = .buserr tw.we tw.addr := by
  simp [decode, h]

/-! ### What a transaction does to the state, by its word

A transaction answers, and beside its answer it does one of seven things, each under a condition on BUSY and on the
fields of the word. Every history below is read off these seven cases. -/

/-- The state `u` is what the word `tw` makes of `s`, the response apart (R69 to R94). -/
inductive WordEffect (s : State) (tw : TransactionWord) : State → Prop where
  /-- A command or input write while BUSY (R69). -/
  | ignored (busy : s.busy = true) (we : tw.we = true) (addr : tw.addr = 0x00 ∨ tw.addr = 0x08) :
      WordEffect s tw s.noteIgnored
  /-- WR_CTRL_NOP (R71). -/
  | nop (idle : s.busy = false) (we : tw.we = true) (addr : tw.addr = 0x00) (start : tw.wdata.getLsbD 0 = false)
      (clear : tw.wdata.getLsbD 1 = false) : WordEffect s tw s
  /-- An accepted START (R72). -/
  | start (idle : s.busy = false) (we : tw.we = true) (addr : tw.addr = 0x00) (start : tw.wdata.getLsbD 0 = true)
      (clear : tw.wdata.getLsbD 1 = false) : WordEffect s tw s.startEncode
  /-- An accepted CLEAR, whatever START holds (R73). -/
  | clear (idle : s.busy = false) (we : tw.we = true) (addr : tw.addr = 0x00) (clear : tw.wdata.getLsbD 1 = true) :
      WordEffect s tw s.clearInput
  /-- An accepted sample write (R77). -/
  | sample (idle : s.busy = false) (we : tw.we = true) (addr : tw.addr = 0x08) :
      WordEffect s tw (s.acceptSample tw.wdata)
  /-- A write of WIN_IDX, at any BUSY (R89). -/
  | window (we : tw.we = true) (addr : tw.addr = 0x50) : WordEffect s tw (s.selectWindow (windowIndex tw.wdata))
  /-- Every other word: a read, a write to a read-only register, a bus error (R46, R132). -/
  | inert (other : tw.we = true → tw.addr ≠ 0x00 ∧ tw.addr ≠ 0x08 ∧ tw.addr ≠ 0x50) : WordEffect s tw s

/-- A read changes nothing but the response (R46). -/
theorem exec_decodeRead (r : Register) (s : State) : ∃ w, exec (decodeRead r) s = .next (s.respond (okayRead w)) := by
  cases r <;> exact ⟨_, rfl⟩

/-- A write to a register the host may not write changes nothing but the response (R75, R79, R83, R91, R93). -/
theorem exec_decodeWrite_readOnly {r : Register} (w : Word) (s : State) (ctrl : r ≠ .ctrl) (sample : r ≠ .sampleData)
    (window : r ≠ .winIdx) : exec (decodeWrite r w) s = .next (s.respond okayWrite) := by
  cases r with
  | ctrl | sampleData | winIdx => contradiction
  | _ => rfl

/-- What the CTRL write data commands of an idle block; CLEAR wins over START (R71 to R73). -/
def State.command (s : State) (w : Word) : State :=
  if ctrlClear w then s.clearInput else if ctrlStart w then s.startEncode else s

/-- The three CTRL rows are one gated write of the command (R69). -/
theorem exec_decodeCtrlWrite (w : Word) (s : State) : exec (decodeCtrlWrite w) s = gatedWrite s (s.command w) := by
  unfold decodeCtrlWrite State.command
  split
  · rfl
  · split <;> rfl

theorem command_effect {s : State} {tw : TransactionWord} (idle : s.busy = false) (we : tw.we = true)
    (addr : tw.addr = 0x00) : WordEffect s tw (s.command tw.wdata) := by
  unfold State.command
  split
  next clear => exact .clear idle we addr clear
  next clear =>
    have clear := Bool.eq_false_of_not_eq_true clear
    split
    next start => exact .start idle we addr start clear
    next start => exact .nop idle we addr (Bool.eq_false_of_not_eq_true start) clear

/-- A write to CTRL or SAMPLE_DATA is noted as ignored while BUSY, and otherwise has its own effect (R69). -/
theorem gatedWrite_effect {s e : State} {tw : TransactionWord} (we : tw.we = true)
    (addr : tw.addr = 0x00 ∨ tw.addr = 0x08) (effect : s.busy = false → WordEffect s tw e) :
    ∃ u r, gatedWrite s e = .next (u.respond r) ∧ WordEffect s tw u := by
  cases busy : s.busy with
  | true => exact ⟨_, _, (gatedWrite_next _ _ _).2 (.inl ⟨busy, rfl⟩), .ignored busy we addr⟩
  | false => exact ⟨_, _, (gatedWrite_next _ _ _).2 (.inr ⟨busy, rfl⟩), effect busy⟩

/-- The inversion of a transaction by its word: the register at its offset decides which case holds. -/
theorem exec_decode_effect (s : State) (tw : TransactionWord) :
    ∃ u r, exec (decode tw) s = .next (u.respond r) ∧ WordEffect s tw u := by
  cases hr : registerAt tw.addr with
  | none =>
    rw [decode_unmapped hr]
    refine ⟨s, _, rfl, .inert fun _ => ⟨?_, ?_, ?_⟩⟩ <;> intro h <;> rw [h] at hr <;> exact absurd hr (by decide)
  | some r =>
    have addr := offset_registerAt _ _ hr
    cases we : tw.we with
    | false =>
      obtain ⟨w, h⟩ := exec_decodeRead r s
      exact ⟨s, _, decode_read we addr ▸ h, .inert fun h => by simp [we] at h⟩
    | true =>
      rw [decode_write we addr]
      by_cases ctrl : r = .ctrl
      · subst ctrl
        rw [decodeWrite, exec_decodeCtrlWrite]
        exact gatedWrite_effect we (.inl addr.symm) fun idle => command_effect idle we addr.symm
      by_cases sample : r = .sampleData
      · subst sample
        exact gatedWrite_effect we (.inr addr.symm) fun idle => .sample idle we addr.symm
      by_cases window : r = .winIdx
      · subst window
        exact ⟨_, _, rfl, .window we addr.symm⟩
      refine ⟨s, _, exec_decodeWrite_readOnly _ _ ctrl sample window, .inert fun _ => ⟨?_, ?_, ?_⟩⟩
      · exact fun h => ctrl (Register.offset_injective (addr.trans h))
      · exact fun h => sample (Register.offset_injective (addr.trans h))
      · exact fun h => window (Register.offset_injective (addr.trans h))

/-- A step, by the event it takes: the engine's turn, a reset, or what a word does. -/
inductive StepEffect (s : State) : State → Prop where
  | idle (ev : s.events = []) : StepEffect s s.engineTurn
  | engine {es : List Event} (ev : s.events = .engine :: es) : StepEffect s (s.withEvents es).engineTurn
  | reset {es : List Event} (ev : s.events = .reset :: es) : StepEffect s (s.withEvents es).assertReset
  | transaction {tw : TransactionWord} {es : List Event} {u : State} (r : Response)
      (ev : s.events = .transaction tw :: es) (effect : WordEffect (s.withEvents es) tw u) : StepEffect s (u.respond r)

theorem step_effect {s t : State} (h : step s = .next t) : StepEffect s t := by
  match ev : s.events with
  | [] => rw [step_idle ev] at h; cases h; exact .idle ev
  | .engine :: es => rw [step_engine ev] at h; cases h; exact .engine ev
  | .reset :: es => rw [step_reset ev] at h; cases h; exact .reset ev
  | .transaction tw :: es =>
    obtain ⟨u, r, hu, he⟩ := exec_decode_effect (s.withEvents es) tw
    rw [step_transaction ev, hu] at h
    cases h
    exact .transaction r ev he

/-! ### The engine's turn -/

/-- A turn of the engine is the completion while BUSY, and nothing otherwise (R95). -/
theorem State.engineTurn_cases (s : State) :
    (s.busy = true ∧ s.engineTurn = s.complete) ∨ (s.busy = false ∧ s.engineTurn = s) := by
  cases h : s.busy <;> simp [State.engineTurn, h]

/-- A turn of the engine leaves the input state and the window index alone (R95). -/
theorem State.engineTurn_frame (s : State) :
    s.engineTurn.scount = s.scount ∧ s.engineTurn.rangeFlag = s.rangeFlag ∧
      s.engineTurn.wrIgnored = s.wrIgnored ∧ s.engineTurn.winIdx = s.winIdx := by
  rcases s.engineTurn_cases with ⟨-, h⟩ | ⟨-, h⟩ <;> simp [h, s.complete_frame]

theorem State.complete_busy (s : State) : s.complete.busy = false := by
  rcases s.complete_cases with ⟨o, -, h⟩ | ⟨o, -, h⟩ <;> rw [h, State.endEncode_busy]

/-- After a turn of the engine no encode is pending (R21, R95). -/
theorem State.engineTurn_busy (s : State) : s.engineTurn.busy = false := by
  rcases s.engineTurn_cases with ⟨-, h⟩ | ⟨idle, h⟩
  · rw [h, s.complete_busy]
  · rw [h, idle]

/-! ### The histories (R18, R19, R21, R25, R36) -/

/-- The range test of a sample write is that of the signed datum (R19). -/
theorem sampleOutOfRange_iff (w : Word) : sampleOutOfRange w = true ↔ w.toInt < 0 ∨ 255 < w.toInt := by
  have high : w.extractLsb' 8 24 = 0 ↔ w.toNat < 256 := by
    rw [← BitVec.toNat_inj, BitVec.extractLsb'_toNat, Nat.shiftRight_eq_div_pow]
    have := w.isLt
    simp only [BitVec.ofNat_eq_ofNat, BitVec.toNat_ofNat]
    omega
  rw [sampleOutOfRange, bne_iff_ne, ne_eq, high, BitVec.toInt_eq_toNat_cond]
  have := w.isLt
  split <;> omega

/-- Settles O27: of the seven effects of a word, a sample write counts on and CLEAR zeroes the count. -/
theorem sampleCountHistory : Obligations.SampleCountHistory := by
  intro s t h
  cases step_effect h with
  | idle ev | engine ev => simp [ev, State.engineTurn_frame]
  | reset ev => simp [ev]
  | transaction r ev effect =>
    simp only [ev]
    cases effect with
    | sample => simp_all
    | clear => simp_all
    | ignored | nop | start | window | inert => simp_all

/-- Settles O28: of the seven effects of a word, a sample write can only set the flag and CLEAR clears it. -/
theorem rangeFlagHistory : Obligations.RangeFlagHistory := by
  intro s t h
  cases step_effect h with
  | idle ev | engine ev => simp [ev, State.engineTurn_frame]
  | reset ev => simp [ev]
  | transaction r ev effect =>
    simp only [ev]
    cases effect with
    | sample => simp_all [sampleOutOfRange_iff]
    | clear => simp_all
    | ignored | nop | start | window | inert => simp_all

/-- Settles O29: the engine's turn ends idle, and of the seven effects of a word only START sets BUSY. -/
theorem busyHistory : Obligations.BusyHistory := by
  intro s t h
  cases step_effect h with
  | idle ev | engine ev => simp [ev, State.engineTurn_busy]
  | reset ev => simp [ev]
  | transaction r ev effect =>
    simp only [ev]
    cases effect with
    | start => simp_all
    | ignored | nop | clear | sample | window | inert => simp_all

/-- Settles O30: of the seven effects of a word, an ignored write sets the flag and CLEAR clears it. -/
theorem writeIgnoredHistory : Obligations.WriteIgnoredHistory := by
  intro s t h
  cases step_effect h with
  | idle ev | engine ev => simp [ev, State.engineTurn_frame]
  | reset ev => simp [ev]
  | transaction r ev effect =>
    simp only [ev]
    cases effect with
    | ignored => simp_all
    | clear => simp_all
    | nop | start | sample | window | inert => simp_all

/-- Settles O31: of the seven effects of a word only the write of WIN_IDX selects a window. -/
theorem windowIndexHistory : Obligations.WindowIndexHistory := by
  intro s t h
  cases step_effect h with
  | idle ev | engine ev => simp [ev, State.engineTurn_frame]
  | reset ev => simp [ev]
  | transaction r ev effect =>
    simp only [ev]
    cases effect with
    | window => simp_all [windowIndex]
    | ignored _ _ addr => rcases addr with addr | addr <;> simp_all
    | nop | start | clear | sample | inert => simp_all

/-- The two command bits of CTRL write data, as the field that bits 1:0 are (R60). -/
theorem commandBits_eq_start (w : Word) :
    w.extractLsb' 0 2 = 0b01#2 ↔ w.getLsbD 0 = true ∧ w.getLsbD 1 = false := by
  have field : ∀ x : BitVec 2, x = 0b01#2 ↔ x.getLsbD 0 = true ∧ x.getLsbD 1 = false := by decide
  simpa [BitVec.getLsbD_extractLsb'] using field (w.extractLsb' 0 2)

/-- Settles O32: of the seven effects of a word only an accepted START touches the outcome flags. -/
theorem onlyStartClearsTheOutcomeFlags : Obligations.OnlyStartClearsTheOutcomeFlags := by
  intro s t tw es hev h
  simp only [commandBits_eq_start]
  cases step_effect h with
  | idle ev | engine ev | reset ev => simp [ev] at hev
  | transaction r ev effect =>
    obtain ⟨⟨⟩, ⟨⟩⟩ := List.cons.inj (ev.symm.trans hev)
    cases effect with
    | start => simp_all
    | ignored _ _ addr => rcases addr with addr | addr <;> simp_all
    | nop | clear | sample | window | inert => simp_all

/-! ### The result state (R31 to R35) -/

/-- None of the replies of a transaction writes a result register. -/
theorem Reply.keepsResults {s t : State} {i : Instr} {o : Outcome} (h : Reply s i o) (ht : o = .next t) :
    t.regs = s.regs ∧ t.diag = s.diag ∧ t.errinfo = s.errinfo := by
  cases h with
  | read i w => obtain rfl := (replyRead_next _ _ _).1 ht; exact ⟨rfl, rfl, rfl⟩
  | write => obtain rfl := (replyWrite_next _ _).1 ht; exact ⟨rfl, rfl, rfl⟩
  | window => obtain rfl := (replyWrite_next _ _).1 ht; exact ⟨rfl, rfl, rfl⟩
  | busError => obtain rfl := (busError_next _ _).1 ht; exact ⟨rfl, rfl, rfl⟩
  | nop | start | clear | sample =>
    rcases (gatedWrite_next _ _ _).1 ht with ⟨-, rfl⟩ | ⟨-, rfl⟩ <;> exact ⟨rfl, rfl, rfl⟩

/-- Settles O26. -/
theorem noTransactionChangesTheResults : Obligations.NoTransactionChangesTheResults :=
  fun i s _ h => (exec_reply i s).keepsResults h

/-! ### The invariant of the input and status state (R17 to R27) -/

/-- What the buffer lists for a slot after an accepted sample write (R77). -/
theorem State.storeSample_read (s : State) (w : Word) (k : Nat) :
    (s.storeSample w).read k =
      if k = s.scount.toNat ∧ k < Config.nSamples then some (sampleByte w) else s.smp.read k := by
  unfold State.storeSample
  split
  next room =>
    by_cases hk : k = s.scount.toNat
    · subst hk; simp [room]
    · simp [hk, Memory.read_write_other _ _ _ _ hk]
  next full => rw [if_neg (by omega)]

/-- A fault of ENCODE always has its code (R125): each of its four stages names one. -/
theorem encodeWaveform_error_code {smp : List Byte} {cnt : BitVec 9} {rng : Bool} {o : EncodeFailure}
    (h : encodeWaveform smp cnt rng = .error o) : o.code ≠ .none := by
  simp only [encodeWaveform, quantizeAndPack, packAndVerify, failAt] at h
  split at h
  next => cases h; simp
  next =>
    split at h
    next => cases h; simp
    next =>
      split at h
      next => cases h; simp
      next =>
        split at h
        next => cases h; simp
        next => cases h

namespace State.ControlInv

variable {s : State}

theorem respond (h : s.ControlInv) (r : Response) : (s.respond r).ControlInv := { h with }

theorem withEvents (h : s.ControlInv) (es : List Event) : (s.withEvents es).ControlInv := { h with }

theorem noteIgnored (h : s.ControlInv) : s.noteIgnored.ControlInv := { h with }

theorem selectWindow (h : s.ControlInv) (k : Byte) : (s.selectWindow k).ControlInv := { h with }

/-- An accepted START clears the outcome flags as it sets BUSY (R72), so none stands beside it. -/
theorem startEncode (h : s.ControlInv) : s.startEncode.ControlInv :=
  { h with valid := by simp, error := by simp, code := by simp, warning := by simp }

/-- An accepted CLEAR counts no slot (R73). -/
theorem clearInput (h : s.ControlInv) : s.clearInput.ControlInv :=
  { h with count := by simp, written := by simp }

/-- An accepted sample write writes the one slot it newly counts (R77). -/
theorem acceptSample (h : s.ControlInv) (w : Word) : (s.acceptSample w).ControlInv :=
  { h with
    buffer := s.storeSample_wf w h.buffer
    count := by simp
    written := by
      intro k counted slot
      rw [State.acceptSample_scount, nextCount_toNat] at counted
      rw [State.acceptSample_smp, State.storeSample_read]
      split
      next => rfl
      next other => exact h.written k (by omega) slot }

/-- A completion ends idle, with VALID or with ERROR and its code (R114, R128). -/
theorem complete (h : s.ControlInv) : s.complete.ControlInv := by
  rcases s.complete_cases with ⟨o, -, hc⟩ | ⟨o, ho, hc⟩ <;> rw [hc]
  · exact { h with valid := by simp, error := by simp, code := by simp, warning := by simp }
  · exact { h with valid := by simp, error := by simp, code := by simpa using encodeWaveform_error_code ho,
                   warning := by simp }

theorem engineTurn (h : s.ControlInv) : s.engineTurn.ControlInv := by
  rcases s.engineTurn_cases with ⟨-, ht⟩ | ⟨-, ht⟩ <;> rw [ht]
  · exact h.complete
  · exact h

/-- Reset clears everything the invariant speaks of (R145), so it needs nothing of the state before. -/
theorem assertReset : s.assertReset.ControlInv where
  buffer := Memory.wf_reset
  count := by simp
  written := by simp
  valid := by simp
  error := by simp
  code := by simp
  warning := by simp

theorem wordEffect (h : s.ControlInv) {tw : TransactionWord} {u : State} (effect : WordEffect s tw u) :
    u.ControlInv := by
  cases effect with
  | ignored => exact h.noteIgnored
  | nop | inert => exact h
  | start => exact h.startEncode
  | clear => exact h.clearInput
  | sample => exact h.acceptSample _
  | window => exact h.selectWindow _

end State.ControlInv

/-- Settles O57: each kind of event keeps the invariant. -/
theorem everyStepKeepsTheControlInvariant : Obligations.EveryStepKeepsTheControlInvariant := by
  intro s t inv h
  cases step_effect h with
  | idle => exact inv.engineTurn
  | engine => exact (inv.withEvents _).engineTurn
  | reset => exact .assertReset
  | transaction r _ effect => exact ((inv.withEvents _).wordEffect effect).respond r

/-! ### Loading a waveform (R155) -/

/-- The run that begins with a step that answers. -/
theorem run_succ {s t : State} (h : step s = .next t) (n : Nat) :
    Host.Core.run core (n + 1) s = Host.Core.run core n t := by
  simp only [Host.Core.run, show core.step s = _ from h]

theorem decode_encode_wrSampleData (w : Word) : decode (encode (.wrSampleData w)) = .wrSampleData w := by
  have row := decode_write (r := .sampleData) (transactionWord_we true 0x08 w) (transactionWord_addr true 0x08 w).symm
  rwa [transactionWord_wdata] at row

/-- The step of a sample write that the idle block accepts (R77). -/
theorem step_acceptSample {s : State} {w : Word} {es : List Event} (idle : s.busy = false)
    (ev : s.events = .transaction (encode (.wrSampleData w)) :: es) :
    step s = .next (((s.withEvents es).acceptSample w).respond okayWrite) := by
  rw [step_transaction ev, decode_encode_wrSampleData]
  exact (gatedWrite_next _ _ _).2 (.inr ⟨idle, rfl⟩)

/-- The step of a CLEAR that the idle block accepts (R73); 2 is the write data that the pseudo-instruction has (R66). -/
theorem step_clearInput {s : State} {es : List Event} (idle : s.busy = false)
    (ev : s.events = .transaction 0x10000000002 :: es) :
    step s = .next ((s.withEvents es).clearInput.respond okayWrite) := by
  rw [step_transaction ev, show decode 0x10000000002 = .wrCtrlClear 2 by decide]
  exact (gatedWrite_next _ _ _).2 (.inr ⟨idle, rfl⟩)

/-- The transactions of a host that writes the data `ws` to SAMPLE_DATA. -/
abbrev sampleWrites (ws : List Word) : List Event := ws.map fun w => .transaction (encode (.wrSampleData w))

/-- The idle state `t` is `s` with the data `ws` written to the slots from SCOUNT on, and `es` still ahead. -/
structure Loaded (s : State) (ws : List Word) (es : List Event) (t : State) : Prop where
  idle : t.busy = false
  ahead : t.events = es
  count : t.scount.toNat = min (s.scount.toNat + ws.length) 257
  range : t.rangeFlag = true ↔ s.rangeFlag = true ∨ ∃ w ∈ ws, w.toInt < 0 ∨ 255 < w.toInt
  stored : ∀ i w, ws[i]? = some w → s.scount.toNat + i < 256 → t.slot (s.scount.toNat + i) = w.extractLsb' 0 8
  kept : ∀ k, k < s.scount.toNat ∨ s.scount.toNat + ws.length ≤ k → t.slot k = s.slot k

/-- One more datum in front. A count of 257 stays, and then no slot below 256 is written any more (R18). -/
theorem Loaded.cons {s u t : State} {w : Word} {ws : List Word} {es : List Event} (h : Loaded u ws es t)
    (legal : s.scount.toNat ≤ 257) (count : u.scount = nextCount s.scount)
    (range : u.rangeFlag = (s.rangeFlag || sampleOutOfRange w))
    (slot : ∀ k, u.slot k = (s.acceptSample w).slot k) : Loaded s (w :: ws) es t where
  idle := h.idle
  ahead := h.ahead
  count := by
    rw [h.count, count, nextCount_toNat, List.length_cons]
    omega
  range := by
    rw [h.range, range, Bool.or_eq_true, sampleOutOfRange_iff, or_assoc, List.exists_mem_cons_iff]
  stored := by
    intro i v hv room
    cases i with
    | zero =>
      obtain rfl : w = v := by simpa using hv
      rw [h.kept _ (.inl (by rw [count, nextCount_toNat]; omega)), slot, State.slot_acceptSample, if_pos ⟨rfl, room⟩]
      rfl
    | succ i =>
      have next : u.scount.toNat + i = s.scount.toNat + (i + 1) := by rw [count, nextCount_toNat]; omega
      exact next ▸ h.stored i v hv (next ▸ room)
  kept := by
    intro k outside
    rw [List.length_cons] at outside
    rw [h.kept k (by rw [count, nextCount_toNat]; omega), slot, State.slot_acceptSample, if_neg (by omega)]

/-- A run of accepted sample writes loads their data, whatever comes after them (R77, R155). -/
theorem run_loads (ws : List Word) (es : List Event) (s : State) (idle : s.busy = false)
    (legal : s.scount.toNat ≤ 257)
    (ev : s.events = sampleWrites ws ++ es) :
    ∃ t, Loaded s ws es t ∧ ∀ n, Host.Core.run core (ws.length + n) s = Host.Core.run core n t := by
  induction ws generalizing s with
  | nil => exact ⟨s, ⟨idle, ev, by simpa using legal, by simp, by simp, by simp⟩, by simp⟩
  | cons w ws ih =>
    have first := step_acceptSample (es := sampleWrites ws ++ es) idle ev
    obtain ⟨t, loaded, run⟩ := ih (((s.withEvents (sampleWrites ws ++ es)).acceptSample w).respond okayWrite) idle
      (by simp) rfl
    refine ⟨t, loaded.cons legal rfl rfl fun k => rfl, fun n => ?_⟩
    rw [List.length_cons, Nat.add_right_comm]
    exact (run_succ first _).trans (run n)

/-- Settles O55: CLEAR takes the count to 0, from where the sample writes load. -/
theorem loadingFillsTheSlotsInOrder : Obligations.LoadingFillsTheSlotsInOrder := by
  intro s ws idle ev
  have first := step_clearInput idle ev
  obtain ⟨t, h, run⟩ := run_loads ws [] ((s.withEvents (sampleWrites ws)).clearInput.respond okayWrite) idle (by simp)
    (by simp)
  refine ⟨t, ?_, h.idle, by simpa using h.count, by simpa using h.range, fun k w hw hk => ?_, fun k hk => ?_⟩
  · exact (run_succ first _).trans (run 0)
  · simpa using h.stored k w hw (by simpa using hk)
  · exact h.kept k (.inr (by simpa using hk))

/-! ### The status word (R20) -/

/-- Bits 5:0 of STATUS are the flags (R20). -/
theorem State.statusWord_flags (s : State) :
    s.statusWord.getLsbD 0 = s.busy ∧ s.statusWord.getLsbD 1 = s.valid ∧ s.statusWord.getLsbD 2 = s.error ∧
      s.statusWord.getLsbD 3 = s.warnAmpl ∧ s.statusWord.getLsbD 4 = s.wrIgnored ∧
      s.statusWord.getLsbD 5 = s.rangeFlag := by
  simp only [State.statusWord, BitVec.getLsbD_cast, BitVec.getLsbD_append]
  simp

/-- The fields of STATUS above the flags, and its reserved bits (R20). -/
theorem State.statusWord_fields (s : State) :
    s.statusWord.extractLsb' 6 2 = 0#2 ∧ s.statusWord.extractLsb' 8 3 = s.errcode.code ∧
      s.statusWord.extractLsb' 11 5 = 0#5 ∧ s.statusWord.extractLsb' 16 9 = s.scount ∧
      s.statusWord.extractLsb' 25 7 = 0#7 := by
  simp (disch := decide) only [State.statusWord, BitVec.extractLsb'_cast, BitVec.extractLsb'_append_eq_of_le,
    BitVec.extractLsb'_append_eq_of_add_le]
  exact ⟨BitVec.extractLsb'_eq_self, BitVec.extractLsb'_eq_self, BitVec.extractLsb'_eq_self,
    BitVec.extractLsb'_eq_self, BitVec.extractLsb'_eq_self⟩

/-- Settles O15. -/
theorem statusReadShowsEveryFlag : Obligations.StatusReadShowsEveryFlag := by
  refine ⟨fun s v => ⟨decode_read (r := .status) (transactionWord_we _ _ _) (transactionWord_addr _ _ _).symm,
    s.statusWord, rfl, ?_⟩, fun _ _ => rfl, by decide⟩
  obtain ⟨busy, valid, error, warnAmpl, wrIgnored, rangeFlag⟩ := s.statusWord_flags
  obtain ⟨low, errcode, middle, scount, high⟩ := s.statusWord_fields
  exact ⟨busy, valid, error, warnAmpl, wrIgnored, rangeFlag, low, errcode, middle, scount, high⟩

end Sys2Proof.Machine

/-! PROOFS. The register map and the order of the accesses (spec/20_memory.md): which offsets are no register's, that
reads have no side effects, and what the transactions of a run leave alone while an encode is pending and after it. -/

namespace Sys2Proof.Machine

/-! ### The offsets outside the map (R44, R49) -/

theorem decodeRead_ne_buserr (r : Register) (we : Bool) (addr : Byte) : decodeRead r ≠ .buserr we addr := by
  cases r <;> nofun

theorem decodeWrite_ne_buserr (r : Register) (w : Word) (we : Bool) (addr : Byte) :
    decodeWrite r w ≠ .buserr we addr := by
  cases r with
  | ctrl =>
    simp only [decodeWrite, decodeCtrlWrite]
    split
    · nofun
    · split <;> nofun
  | _ => nofun

/-- The row of a word is BUSERR exactly where no register stands (R58, R94). -/
theorem decode_eq_buserr_iff (tw : TransactionWord) :
    decode tw = .buserr tw.we tw.addr ↔ registerAt tw.addr = none := by
  cases h : registerAt tw.addr with
  | none => simp [decode_unmapped h]
  | some r =>
    have addr := offset_registerAt _ _ h
    cases we : tw.we with
    | false => simp [decode_read we addr, decodeRead_ne_buserr]
    | true => simp [decode_write we addr, decodeWrite_ne_buserr]

/-- A misaligned offset is never rounded down to a word (R44); of the aligned ones the reserved have no register
(R49). -/
theorem registerAt_eq_none_iff (addr : Byte) :
    registerAt addr = none ↔
      addr.extractLsb' 0 2 ≠ 0#2 ∨ addr ∈ ([0x14, 0x18, 0x1C, 0x48, 0x4C, 0x5C] : List Byte) ∨
        0x60 ≤ addr.toNat := by
  by_cases word : addr.extractLsb' 0 2 = 0#2
  · revert addr
    decide +kernel
  · simp [registerAt, aligned, word]

/-- Settles O6. -/
theorem busErrorRowIsTheOffsetsOutsideTheMap : Obligations.BusErrorRowIsTheOffsetsOutsideTheMap :=
  fun tw => (decode_eq_buserr_iff tw).trans (registerAt_eq_none_iff tw.addr)

/-! ### Reads (R46) -/

/-- No read looks at the answer to the transaction before it. -/
theorem exec_decodeRead_response (r : Register) (s : State) (q : Option Response) :
    exec (decodeRead r) { s with response := q } = exec (decodeRead r) s := by
  cases r <;> rfl

/-- The answer to a read is a function of the offset and of the state without its response: neither the write data nor
the answer to an earlier transaction takes part in it. -/
theorem exec_read_answer (s : State) (addr : Byte) :
    ∃ a : Response, ∀ (v : Word) (q : Option Response),
      exec (decode (transactionWord false addr v)) { s with response := q } = .next (s.respond a) := by
  cases h : registerAt addr with
  | none =>
    refine ⟨busErrorResponse, fun v q => ?_⟩
    rw [decode_unmapped (by rwa [transactionWord_addr])]
    rfl
  | some r =>
    have row (v : Word) : decode (transactionWord false addr v) = decodeRead r :=
      decode_read (transactionWord_we _ _ _) ((offset_registerAt _ _ h).trans (transactionWord_addr _ _ _).symm)
    obtain ⟨w, answer⟩ := exec_decodeRead r s
    exact ⟨okayRead w, fun v q => by rw [row, exec_decodeRead_response, answer]⟩

/-- Settles O25: the first read and the second have the same answer, whatever response was there before. -/
theorem readsHaveNoSideEffects : Obligations.ReadsHaveNoSideEffects := by
  intro s t addr v w h
  obtain ⟨a, answer⟩ := exec_read_answer s addr
  obtain rfl : s.respond a = t := Host.Outcome.next.inj ((answer v s.response).symm.trans h)
  exact ⟨rfl, answer w (some a)⟩

/-! ### Runs that keep a property -/

theorem WordEffect.events {s u : State} {tw : TransactionWord} (h : WordEffect s tw u) : u.events = s.events := by
  cases h <;> rfl

theorem State.engineTurn_events (s : State) : s.engineTurn.events = s.events := by
  rcases s.engineTurn_cases with ⟨-, h⟩ | ⟨-, h⟩ <;> simp [h, s.complete_frame]

/-- A step takes the first of the events ahead (R51). -/
theorem step_events {s t : State} {e : Event} {es : List Event} (ev : s.events = e :: es) (h : step s = .next t) :
    t.events = es := by
  cases step_effect h with
  | idle ev' => simp [ev'] at ev
  | engine ev' => obtain ⟨-, rfl⟩ := List.cons.inj (ev'.symm.trans ev); exact State.engineTurn_events _
  | reset ev' => obtain ⟨-, rfl⟩ := List.cons.inj (ev'.symm.trans ev); rfl
  | transaction r ev' effect =>
    obtain ⟨-, rfl⟩ := List.cons.inj (ev'.symm.trans ev)
    exact effect.events

/-- The induction over a run: what the step of every event of a list keeps, the run of the list keeps. -/
theorem run_keeps {P : State → Prop} {es : List Event}
    (keeps : ∀ e ∈ es, ∀ (s t : State) (rest : List Event), s.events = e :: rest → P s → step s = .next t → P t)
    {rest : List Event} {s : State} (ev : s.events = es ++ rest) (h : P s) :
    ∃ t, P t ∧ t.events = rest ∧ ∀ n, Host.Core.run core (es.length + n) s = Host.Core.run core n t := by
  induction es generalizing s with
  | nil => exact ⟨s, h, ev, fun n => by rw [List.length_nil, Nat.zero_add]⟩
  | cons e es ih =>
    obtain ⟨u, first⟩ := stepAlwaysAnswersNext s
    obtain ⟨t, ht, ahead, run⟩ := ih (fun e he => keeps e (List.mem_cons_of_mem _ he)) (step_events ev first)
      (keeps e List.mem_cons_self s u _ ev h first)
    refine ⟨t, ht, ahead, fun n => ?_⟩
    rw [List.length_cons, Nat.add_right_comm, run_succ first, run n]

/-- What the step of every transaction keeps, the run of the transactions that are ahead keeps. -/
theorem run_transactions_keep {P : State → Prop}
    (keeps : ∀ {s t : State} {tw : TransactionWord} {rest : List Event}, s.events = .transaction tw :: rest → P s →
      step s = .next t → P t)
    {tws : List TransactionWord} {s : State} (ev : s.events = tws.map .transaction) (h : P s) :
    ∃ t, Host.Core.run core tws.length s = .next t ∧ P t := by
  have keepsEach : ∀ e ∈ tws.map Event.transaction, ∀ (s t : State) (rest : List Event), s.events = e :: rest →
      P s → step s = .next t → P t := by
    simp only [List.forall_mem_map]
    exact fun _ _ _ _ _ => keeps
  obtain ⟨t, ht, -, run⟩ := run_keeps (rest := []) keepsEach (by rw [ev, List.append_nil]) h
  rw [List.length_map] at run
  exact ⟨t, run 0, ht⟩

/-! ### The input of a pending encode (R54) -/

/-- An encode is pending in `t`, and it reads there what it reads in `s`. -/
structure PendingAsIn (s t : State) : Prop where
  busy : t.busy = true
  smp : t.smp = s.smp
  resets : t.resets = s.resets
  scount : t.scount = s.scount
  rangeFlag : t.rangeFlag = s.rangeFlag

theorem PendingAsIn.slot {s t : State} (h : PendingAsIn s t) (k : Nat) : t.slot k = s.slot k := by
  simp only [State.slot, h.smp, h.resets]

theorem PendingAsIn.encodeOutcome {s t : State} (h : PendingAsIn s t) : t.encodeOutcome = s.encodeOutcome := by
  have waveform : t.waveform = s.waveform := List.map_congr_left fun k _ => h.slot k
  simp only [State.encodeOutcome, waveform, h.scount, h.rangeFlag]

theorem PendingAsIn.respond {s t : State} (h : PendingAsIn s t) (r : Response) : PendingAsIn s (t.respond r) :=
  { h with }

theorem PendingAsIn.withEvents {s t : State} (h : PendingAsIn s t) (es : List Event) :
    PendingAsIn s (t.withEvents es) := { h with }

/-- The effects that write the buffer, the count or the range flag need an idle block (R69). -/
theorem PendingAsIn.wordEffect {s t u : State} {tw : TransactionWord} (h : PendingAsIn s t)
    (effect : WordEffect t tw u) : PendingAsIn s u := by
  cases effect with
  | ignored | window | inert => exact { h with }
  | nop idle | start idle | clear idle | sample idle => exact absurd h.busy (by simp [idle])

theorem PendingAsIn.step {s t u : State} {tw : TransactionWord} {es : List Event} (ev : t.events = .transaction tw :: es)
    (h : PendingAsIn s t) (hstep : step t = .next u) : PendingAsIn s u := by
  cases step_effect hstep with
  | idle ev' | engine ev' | reset ev' => simp [ev'] at ev
  | transaction r _ effect =>
    exact ((h.withEvents _).wordEffect effect).respond r

/-- Settles O33: each transaction leaves the encode pending on the same input, so the whole run does. -/
theorem pendingEncodeSeesTheBufferOfItsStart : Obligations.PendingEncodeSeesTheBufferOfItsStart := by
  intro s tws busy ev
  obtain ⟨t, run, h⟩ := run_transactions_keep (P := PendingAsIn s) PendingAsIn.step ev ⟨busy, rfl, rfl, rfl, rfl⟩
  exact ⟨t, run, h.busy, h.slot, h.scount, h.rangeFlag, h.encodeOutcome⟩

/-! ### The results of a completed encode (R52, R151) -/

/-- The state `t` shows the RegisterSet, DIAG and ERRINFO of `s`. -/
structure SameRegisters (s t : State) : Prop where
  regs : t.regs = s.regs
  diag : t.diag = s.diag
  errinfo : t.errinfo = s.errinfo

/-- The state `t` is idle and shows all results of `s`, the outcome flags included. -/
structure SameResults (s t : State) : Prop extends SameRegisters s t where
  idle : t.busy = false
  valid : t.valid = s.valid
  error : t.error = s.error
  errcode : t.errcode = s.errcode
  warnAmpl : t.warnAmpl = s.warnAmpl

/-- The event is one that R52 lets the results stay under: no reset, and no START. -/
def Event.NoStart (e : Event) : Prop := e ≠ .reset ∧ ∀ tw, e = .transaction tw → ∀ w, decode tw ≠ .wrCtrlStart w

/-- A CTRL write with START set and CLEAR not is of the row WR_CTRL_START (R72). -/
theorem decode_start {tw : TransactionWord} (we : tw.we = true) (addr : tw.addr = 0x00)
    (start : tw.wdata.getLsbD 0 = true) (clear : tw.wdata.getLsbD 1 = false) :
    decode tw = .wrCtrlStart tw.wdata := by
  rw [decode_write (r := .ctrl) we addr.symm]
  simp only [decodeWrite, decodeCtrlWrite, ctrlClear, ctrlStart, start, clear, Bool.false_eq_true, if_false, if_true]

theorem SameResults.respond {s t : State} (h : SameResults s t) (r : Response) : SameResults s (t.respond r) :=
  { h with }

theorem SameResults.withEvents {s t : State} (h : SameResults s t) (es : List Event) :
    SameResults s (t.withEvents es) := { h with }

/-- Of the effects of a word only START touches the outcome flags or BUSY. -/
theorem SameResults.wordEffect {s t u : State} {tw : TransactionWord} (h : SameResults s t)
    (noStart : ∀ w, decode tw ≠ .wrCtrlStart w) (effect : WordEffect t tw u) : SameResults s u := by
  cases effect with
  | start _ we addr start clear => exact absurd (decode_start we addr start clear) (noStart _)
  | ignored | nop | clear | sample | window | inert => exact { h with }

theorem SameResults.step {s t u : State} {e : Event} {es : List Event} (noStart : e.NoStart) (ev : t.events = e :: es)
    (h : SameResults s t) (hstep : step t = .next u) : SameResults s u := by
  cases step_effect hstep with
  | idle ev' => simp [ev'] at ev
  | reset ev' => exact absurd (List.cons.inj (ev'.symm.trans ev)).1.symm noStart.1
  | engine =>
    rw [State.engineTurn, if_neg (by simp [h.idle])]
    exact h.withEvents _
  | transaction r ev' effect =>
    have noStart := noStart.2 _ (List.cons.inj (ev'.symm.trans ev)).1.symm
    exact ((h.withEvents _).wordEffect noStart effect).respond r

/-- No transaction writes a result register, so a START leaves the previous encode's words readable (R151). -/
theorem SameRegisters.step {s t u : State} {tw : TransactionWord} {es : List Event}
    (ev : t.events = .transaction tw :: es) (h : SameRegisters s t) (hstep : step t = .next u) : SameRegisters s u := by
  rw [step_transaction ev] at hstep
  obtain ⟨regs, diag, errinfo⟩ := noTransactionChangesTheResults _ _ _ hstep
  exact ⟨regs.trans h.regs, diag.trans h.diag, errinfo.trans h.errinfo⟩

/-- Settles O36: a first run without START keeps all results, and the run of any transactions after it keeps the result
registers. -/
theorem resultsStayUntilTheNextStart : Obligations.ResultsStayUntilTheNextStart := by
  intro s es tws idle ev noStart
  obtain ⟨t, h, ahead, run⟩ := run_keeps (P := SameResults s)
    (fun e he _ _ _ => SameResults.step (noStart e he)) ev ⟨⟨rfl, rfl, rfl⟩, idle, rfl, rfl, rfl, rfl⟩
  obtain ⟨u, further, same⟩ := run_transactions_keep (P := SameRegisters s) SameRegisters.step ahead h.toSameRegisters
  exact ⟨t, u, run 0, h.idle, h.regs, h.diag, h.errinfo, h.valid, h.error, h.errcode, h.warnAmpl,
    (run tws.length).trans further, same.regs, same.diag, same.errinfo⟩

end Sys2Proof.Machine

/-! PROOFS. The encoding (spec/30_encoding.md): the transactions that have a word are the rows of the registers and
BUSERR, and decoder and encoder invert each other on them (R56 to R58); the decoder is the match and mask table (R59);
the examples and the pseudo-instructions (R66, R67). -/

namespace Sys2Proof.Machine

/-! ### The words of the rows (R56 to R58) -/

theorem decode_transactionWord_read (r : Register) (w : Word) :
    decode (transactionWord false r.offset w) = decodeRead r :=
  decode_read (transactionWord_we _ _ _) (transactionWord_addr _ _ _).symm

theorem decode_transactionWord_write (r : Register) (w : Word) :
    decode (transactionWord true r.offset w) = decodeWrite r w := by
  have row := decode_write (transactionWord_we true r.offset w) (transactionWord_addr true r.offset w).symm
  rwa [transactionWord_wdata] at row

theorem decode_transactionWord_unmapped (we : Bool) {addr : Byte} (w : Word) (unmapped : registerAt addr = none) :
    decode (transactionWord we addr w) = .buserr we addr := by
  have row := decode_unmapped (tw := transactionWord we addr w) (by rwa [transactionWord_addr])
  rwa [transactionWord_we, transactionWord_addr] at row

theorem encode_decodeRead (r : Register) : encode (decodeRead r) = transactionWord false r.offset 0 := by
  cases r <;> rfl

/-- All three CTRL rows carry their write data whole (R71 to R73). -/
theorem encode_decodeWrite (r : Register) (w : Word) : encode (decodeWrite r w) = transactionWord true r.offset w := by
  cases r with
  | ctrl =>
    simp only [decodeWrite, decodeCtrlWrite]
    split
    · rfl
    · split <;> rfl
  | _ => rfl

/-! ### The CTRL rows, by the command bits of the write data -/

theorem commandBits_eq_nop (w : Word) :
    w.extractLsb' 0 2 = 0b00#2 ↔ w.getLsbD 0 = false ∧ w.getLsbD 1 = false := by
  have field : ∀ x : BitVec 2, x = 0b00#2 ↔ x.getLsbD 0 = false ∧ x.getLsbD 1 = false := by decide
  simpa [BitVec.getLsbD_extractLsb'] using field (w.extractLsb' 0 2)

theorem decodeCtrlWrite_nop {w : Word} (start : w.getLsbD 0 = false) (clear : w.getLsbD 1 = false) :
    decodeCtrlWrite w = .wrCtrlNop w := by
  simp only [decodeCtrlWrite, ctrlClear, ctrlStart, start, clear, Bool.false_eq_true, if_false]

theorem decodeCtrlWrite_start {w : Word} (start : w.getLsbD 0 = true) (clear : w.getLsbD 1 = false) :
    decodeCtrlWrite w = .wrCtrlStart w := by
  simp only [decodeCtrlWrite, ctrlClear, ctrlStart, start, clear, Bool.false_eq_true, if_false, if_true]

/-- CLEAR wins, whatever START holds (R73). -/
theorem decodeCtrlWrite_clear {w : Word} (clear : w.getLsbD 1 = true) : decodeCtrlWrite w = .wrCtrlClear w := by
  simp only [decodeCtrlWrite, ctrlClear, clear, if_true]

/-! ### The transactions that have a word -/

/-- A row of the encoding: the read or the write of a register, or the transaction of an offset outside the map. -/
inductive Row : Instr → Prop where
  | read (r : Register) : Row (decodeRead r)
  | write (r : Register) (w : Word) : Row (decodeWrite r w)
  | unmapped (we : Bool) {addr : Byte} (h : registerAt addr = none) : Row (.buserr we addr)

/-- The decoder is total: every 41-bit word is a row (R58). -/
theorem decode_row (tw : TransactionWord) : Row (decode tw) := by
  cases h : registerAt tw.addr with
  | none => exact decode_unmapped h ▸ .unmapped _ h
  | some r =>
    have addr := offset_registerAt _ _ h
    cases we : tw.we with
    | false => exact decode_read we addr ▸ .read r
    | true => exact decode_write we addr ▸ .write r _

theorem decodeCtrlWrite_wf (w : Word) : (decodeCtrlWrite w).wf = true := by
  cases clear : w.getLsbD 1 with
  | true => rwa [decodeCtrlWrite_clear clear]
  | false =>
    cases start : w.getLsbD 0 with
    | true => exact decodeCtrlWrite_start start clear ▸ beq_iff_eq.2 ((commandBits_eq_start w).2 ⟨start, clear⟩)
    | false => exact decodeCtrlWrite_nop start clear ▸ beq_iff_eq.2 ((commandBits_eq_nop w).2 ⟨start, clear⟩)

theorem Row.wf {i : Instr} (row : Row i) : i.wf = true := by
  cases row with
  | read r => cases r <;> rfl
  | write r w =>
    cases r with
    | ctrl => exact decodeCtrlWrite_wf w
    | _ => rfl
  | unmapped we h => simp [Instr.wf, mapped, h]

/-- Every well-formed transaction is a row; the operand conditions of the CTRL rows say which of them the write data
selects (R71 to R73), and that of BUSERR that no register stands at the offset (R94). -/
theorem row_of_wf {i : Instr} (h : i.wf = true) : Row i := by
  cases i with
  | rdCtrl => exact .read .ctrl
  | rdStatus => exact .read .status
  | rdSampleData => exact .read .sampleData
  | rdDiag => exact .read .diag
  | rdErrinfo => exact .read .errinfo
  | rdMslut n => exact .read (.mslut n)
  | rdMslutsel => exact .read .mslutsel
  | rdMslutstart => exact .read .mslutstart
  | rdWinIdx => exact .read .winIdx
  | rdReconData => exact .read .reconData
  | rdOrigData => exact .read .origData
  | wrStatus w => exact .write .status w
  | wrSampleData w => exact .write .sampleData w
  | wrDiag w => exact .write .diag w
  | wrErrinfo w => exact .write .errinfo w
  | wrMslut n w => exact .write (.mslut n) w
  | wrMslutsel w => exact .write .mslutsel w
  | wrMslutstart w => exact .write .mslutstart w
  | wrWinIdx w => exact .write .winIdx w
  | wrReconData w => exact .write .reconData w
  | wrOrigData w => exact .write .origData w
  | wrCtrlNop w =>
    obtain ⟨start, clear⟩ := (commandBits_eq_nop w).1 (eq_of_beq h)
    exact decodeCtrlWrite_nop start clear ▸ .write .ctrl w
  | wrCtrlStart w =>
    obtain ⟨start, clear⟩ := (commandBits_eq_start w).1 (eq_of_beq h)
    exact decodeCtrlWrite_start start clear ▸ .write .ctrl w
  | wrCtrlClear w => exact decodeCtrlWrite_clear h ▸ .write .ctrl w
  | buserr we addr => exact .unmapped we (by simpa [Instr.wf, mapped] using h)

/-! ### Decoder and encoder -/

theorem Row.decode_encode {i : Instr} (row : Row i) : decode (encode i) = i := by
  cases row with
  | read r => rw [encode_decodeRead, decode_transactionWord_read]
  | write r w => rw [encode_decodeWrite, decode_transactionWord_write]
  | unmapped we h => exact decode_transactionWord_unmapped we 0 h

/-- Settles O1: a well-formed transaction is a row, and each row is what its word decodes to. -/
theorem decodeOfEncodeIsTheTransaction : Obligations.DecodeOfEncodeIsTheTransaction :=
  fun _ h => (row_of_wf h).decode_encode

/-- Settles O2: the word of the row is read off the row's case, and its fields are the word's own. -/
theorem encodeOfDecodeIsTheCanonicalWord : Obligations.EncodeOfDecodeIsTheCanonicalWord := by
  refine fun tw => ⟨(decode_row tw).wf, ?_⟩
  cases h : registerAt tw.addr with
  | none => simp [decode_unmapped h, encode, mapped, h]
  | some r =>
    have addr := offset_registerAt _ _ h
    cases we : tw.we with
    | false => simp [decode_read we addr, encode_decodeRead, addr]
    | true => simp [decode_write we addr, encode_decodeWrite, addr, mapped, h]

/-- Settles O3: at an offset of the map the row of a read is the register's, outside it BUSERR; neither names the write
data. -/
theorem readWordsIgnoreWriteData : Obligations.ReadWordsIgnoreWriteData := by
  intro addr w
  cases h : registerAt addr with
  | none => rw [decode_transactionWord_unmapped _ _ h, decode_transactionWord_unmapped _ _ h]
  | some r =>
    obtain rfl := offset_registerAt _ _ h
    rw [decode_transactionWord_read, decode_transactionWord_read]

/-- Settles O5: the examples are thirteen closed words and transactions, evaluated. -/
theorem exampleWordsDecode : Obligations.ExampleWordsDecode := by
  unfold Obligations.ExampleWordsDecode
  decide

/-! ### The pseudo-instructions (R66) -/

/-- A `load` is the word of CLEAR and one word for each sample. -/
theorem expand_load_length (vs : List Int) : (HostStmt.load vs).expand.length = vs.length + 1 := by
  rw [HostStmt.expand, List.length_cons, List.length_map]

theorem load_wf_length {vs : List Int} (wf : (HostStmt.load vs).wf = true) : vs.length = 256 :=
  of_decide_eq_true (Bool.and_eq_true_iff.1 wf).1

/-- Settles O7: a script's names and values stand in the expansion as they are, and the words are the offsets' (R48);
only the number of a `load`'s transactions needs its well-formedness. -/
theorem pseudoInstructionsExpand : Obligations.PseudoInstructionsExpand := by
  refine ⟨?nop, ?start, ?clear, fun vs wf => ⟨?load, ?loadLength⟩, ?wait, ?readset, ?peek, ?orig⟩
  case nop | start | clear => decide
  case load => rfl
  case loadLength => rw [expand_load_length, load_wf_length wf]
  case wait | readset | peek | orig => intros; rfl

end Sys2Proof.Machine

namespace Sys2Proof

open Machine

/-! ### The match and mask table (R59) -/

theorem transactionWord_ext {x y : TransactionWord} (we : x.we = y.we) (addr : x.addr = y.addr)
    (wdata : x.wdata = y.wdata) : x = y := by
  rw [← transactionWord_fields x, we, addr, wdata, transactionWord_fields]

/-- A row applies to a word exactly where it applies to each of the word's fields (R56, R59). -/
theorem OpcodeRow.matches_iff (row : OpcodeRow) (tw : TransactionWord) :
    row.matches tw = true ↔ (tw.we && row.mask.we) = row.pattern.we ∧
      tw.addr &&& row.mask.addr = row.pattern.addr ∧ tw.wdata &&& row.mask.wdata = row.pattern.wdata := by
  have we : (tw &&& row.mask).we = (tw.we && row.mask.we) := BitVec.getLsbD_and
  have addr : (tw &&& row.mask).addr = tw.addr &&& row.mask.addr := BitVec.extractLsb'_and
  have wdata : (tw &&& row.mask).wdata = tw.wdata &&& row.mask.wdata := BitVec.extractLsb'_and
  rw [← we, ← addr, ← wdata, OpcodeRow.matches, beq_iff_eq]
  exact ⟨fun h => h ▸ ⟨rfl, rfl, rfl⟩, fun ⟨we, addr, wdata⟩ => transactionWord_ext we addr wdata⟩

/-- Two rows whose patterns differ in a bit that both masks look at never apply to one word. -/
theorem OpcodeRow.not_matches_both {p q : OpcodeRow} (apart : p.pattern &&& q.mask ≠ q.pattern &&& p.mask)
    (tw : TransactionWord) : ¬ (p.matches tw = true ∧ q.matches tw = true) := by
  rintro ⟨hp, hq⟩
  refine apart ?_
  calc p.pattern &&& q.mask = tw &&& p.mask &&& q.mask := by rw [eq_of_beq hp]
    _ = tw &&& q.mask &&& p.mask := by rw [BitVec.and_assoc, BitVec.and_comm p.mask, ← BitVec.and_assoc]
    _ = q.pattern &&& p.mask := by rw [eq_of_beq hq]

/-- The rows but BUSERR are pairwise told apart by the bits their masks share. -/
theorem opcodeTable_apart : opcodeTable.Pairwise fun p q => p.pattern &&& q.mask ≠ q.pattern &&& p.mask := by
  decide

theorem length_filter_matches_le_one (tw : TransactionWord) :
    (opcodeTable.filter (·.matches tw)).length ≤ 1 := by
  have apart := opcodeTable_apart.filter (·.matches tw)
  have applies : ∀ row ∈ opcodeTable.filter (·.matches tw), row.matches tw = true :=
    fun _ h => (List.mem_filter.1 h).2
  generalize opcodeTable.filter (·.matches tw) = rows at apart applies ⊢
  match rows with
  | [] => exact Nat.zero_le 1
  | [_] => exact Nat.le_refl 1
  | p :: q :: _ =>
    exact absurd ⟨applies p (by simp), applies q (by simp)⟩
      (OpcodeRow.not_matches_both (List.rel_of_pairwise_cons apart (by simp)) tw)

/-- The first row that applies is the only one, so the table gives a word the name of any row that applies to it. -/
theorem tableMnemonic_eq_of_matches {tw : TransactionWord} {row : OpcodeRow} (mem : row ∈ opcodeTable)
    (applies : row.matches tw = true) : tableMnemonic tw = row.mnemonic := by
  have found : row ∈ opcodeTable.filter (·.matches tw) := List.mem_filter.2 ⟨mem, applies⟩
  obtain ⟨only, h⟩ := List.length_eq_one_iff.1
    (Nat.le_antisymm (length_filter_matches_le_one tw) (List.length_pos_of_mem found))
  obtain rfl : row = only := List.mem_singleton.1 (h ▸ found)
  have first : opcodeTable.find? (·.matches tw) = some row := by rw [← List.head?_filter, h, List.head?_cons]
  simp [tableMnemonic, first]

/-- A row looks at the whole offset and asks for one of the map, or it is a row of the eight table words. -/
theorem opcodeTable_offsets : ∀ row ∈ opcodeTable,
    row.mask.addr = BitVec.allOnes 8 ∧ mapped row.pattern.addr = true ∨
      row.mask.addr = 0b11100011#8 ∧ row.pattern.addr = 0b00100000#8 := by
  decide

/-- Every row but BUSERR applies only at offsets of the map (R58). -/
theorem mapped_of_matches {tw : TransactionWord} {row : OpcodeRow} (mem : row ∈ opcodeTable)
    (applies : row.matches tw = true) : mapped tw.addr = true := by
  obtain ⟨-, offset, -⟩ := (row.matches_iff tw).1 applies
  rcases opcodeTable_offsets row mem with ⟨mask, register⟩ | ⟨mask, pattern⟩
  · rwa [← offset, mask, BitVec.and_allOnes] at register
  · have tableWord : ∀ a : Byte, a &&& 0b11100011#8 = 0b00100000#8 → mapped a = true := by decide +kernel
    exact tableWord tw.addr (mask ▸ pattern ▸ offset)

theorem tableMnemonic_unmapped {tw : TransactionWord} (h : registerAt tw.addr = none) :
    tableMnemonic tw = "BUSERR" := by
  have noRow : opcodeTable.find? (·.matches tw) = none := List.find?_eq_none.2 fun row mem applies => by
    simpa [mapped, h] using mapped_of_matches mem applies
  simp [tableMnemonic, noRow]

/-- The row applies to the words that access the register in the direction `we`, as far as direction and offset say. -/
def OpcodeRow.covers (row : OpcodeRow) (we : Bool) (r : Register) : Bool :=
  (we && row.mask.we) == row.pattern.we && (r.offset &&& row.mask.addr) == row.pattern.addr

theorem OpcodeRow.matches_of_covers {row : OpcodeRow} {tw : TransactionWord} {r : Register}
    (h : row.covers tw.we r = true) (addr : r.offset = tw.addr)
    (wdata : tw.wdata &&& row.mask.wdata = row.pattern.wdata) : row.matches tw = true := by
  obtain ⟨we, offset⟩ := Bool.and_eq_true_iff.1 h
  exact (row.matches_iff tw).2 ⟨eq_of_beq we, addr ▸ eq_of_beq offset, wdata⟩

/-- The table's row for the reads of a register, which looks at no write data. -/
theorem exists_read_row (r : Register) : ∃ row ∈ opcodeTable, row.mnemonic = (decodeRead r).mnemonic ∧
    row.covers false r = true ∧ row.mask.wdata = 0 ∧ row.pattern.wdata = 0 := by
  cases r with
  | mslut n => revert n; decide
  | _ => decide

theorem exists_write_row {r : Register} (ctrl : r ≠ .ctrl) (w : Word) :
    ∃ row ∈ opcodeTable, row.mnemonic = (decodeWrite r w).mnemonic ∧
      row.covers true r = true ∧ row.mask.wdata = 0 ∧ row.pattern.wdata = 0 := by
  have mnemonic : (decodeWrite r w).mnemonic = (decodeWrite r 0).mnemonic := by
    cases r with
    | ctrl => contradiction
    | _ => rfl
  rw [mnemonic]
  clear mnemonic
  cases r with
  | ctrl => contradiction
  | mslut n => clear ctrl; revert n; decide
  | _ => decide

/-- The CTRL rows' masks see of the write data its command bits. -/
theorem and_commandMask (w : Word) (mask : BitVec 2) :
    w &&& mask.setWidth 32 = (w.extractLsb' 0 2 &&& mask).setWidth 32 := by
  ext i hi
  by_cases low : i < 2
  · simp [low, BitVec.getLsbD_eq_getElem, hi]
  · simp [low, BitVec.getLsbD_of_ge mask i (Nat.le_of_not_lt low)]

/-- One of the three CTRL rows applies to every write of CTRL. -/
theorem exists_ctrl_row (w : Word) : ∃ row ∈ opcodeTable, row.mnemonic = (decodeCtrlWrite w).mnemonic ∧
    row.covers true .ctrl = true ∧ w &&& row.mask.wdata = row.pattern.wdata := by
  cases clear : w.getLsbD 1 with
  | true =>
    refine ⟨⟨"WR_CTRL_CLEAR", 0x10000000002, 0x1FF00000002⟩, by decide, ?_, by decide, ?_⟩
    · rw [decodeCtrlWrite_clear clear]; rfl
    · have bits : ∀ x : BitVec 2, x.getLsbD 1 = true → x &&& 2#2 = 2#2 := by decide
      have clear : (w.extractLsb' 0 2).getLsbD 1 = true := by rwa [BitVec.getLsbD_extractLsb']
      exact (and_commandMask w 2#2).trans (by rw [bits _ clear]; rfl)
  | false =>
    cases start : w.getLsbD 0 with
    | true =>
      refine ⟨⟨"WR_CTRL_START", 0x10000000001, 0x1FF00000003⟩, by decide, ?_, by decide, ?_⟩
      · rw [decodeCtrlWrite_start start clear]; rfl
      · exact (and_commandMask w 3#2).trans (by rw [(commandBits_eq_start w).2 ⟨start, clear⟩]; rfl)
    | false =>
      refine ⟨⟨"WR_CTRL_NOP", 0x10000000000, 0x1FF00000003⟩, by decide, ?_, by decide, ?_⟩
      · rw [decodeCtrlWrite_nop start clear]; rfl
      · exact (and_commandMask w 3#2).trans (by rw [(commandBits_eq_nop w).2 ⟨start, clear⟩]; rfl)

/-- At an offset of the map some row of the table applies, and it has the name of the transaction. -/
theorem exists_matching_row {tw : TransactionWord} {r : Register} (addr : r.offset = tw.addr) :
    ∃ row ∈ opcodeTable, row.mnemonic = (decode tw).mnemonic ∧ row.matches tw = true := by
  cases we : tw.we with
  | false =>
    obtain ⟨row, mem, name, covers, mask, pattern⟩ := exists_read_row r
    exact ⟨row, mem, decode_read we addr ▸ name,
      OpcodeRow.matches_of_covers (we ▸ covers) addr (by simp [mask, pattern])⟩
  | true =>
    rw [decode_write we addr]
    by_cases ctrl : r = .ctrl
    · subst ctrl
      obtain ⟨row, mem, name, covers, wdata⟩ := exists_ctrl_row tw.wdata
      exact ⟨row, mem, name, OpcodeRow.matches_of_covers (we ▸ covers) addr wdata⟩
    · obtain ⟨row, mem, name, covers, mask, pattern⟩ := exists_write_row ctrl tw.wdata
      exact ⟨row, mem, name,
        OpcodeRow.matches_of_covers (we ▸ covers) addr (by simp [mask, pattern])⟩

/-- Settles O4: outside the map no row applies and the table says BUSERR; at a register's offset a row with the
transaction's name applies, and it is the only one. -/
theorem decodeIsTheMatchAndMaskTable : Obligations.DecodeIsTheMatchAndMaskTable := by
  refine ⟨fun tw => ?_, length_filter_matches_le_one⟩
  cases h : registerAt tw.addr with
  | none => rw [tableMnemonic_unmapped h, decode_unmapped h, Instr.mnemonic]
  | some r =>
    obtain ⟨row, mem, name, applies⟩ := exists_matching_row (offset_registerAt _ _ h)
    exact (tableMnemonic_eq_of_matches mem applies).trans name

end Sys2Proof

/-! PROOFS. The host transactions (spec/40_host_access.md): what each row answers, what it changes and what it leaves
alone, idle and busy; the fields of the diagnostic and start words that the reads show. -/

namespace Sys2Proof.Machine

/-- Settles O8: every word is a row, and the step is the row's transaction. -/
theorem stepPerformsTheDecodedTransaction : Obligations.StepPerformsTheDecodedTransaction :=
  fun _ tw _ ev => ⟨(decode_row tw).wf, step_transaction ev⟩

/-! ### Busy gating (R69) -/

theorem gatedWrite_of_busy {s : State} (busy : s.busy = true) (e : State) :
    gatedWrite s e = .next (s.noteIgnored.respond okayWrite) :=
  (gatedWrite_next _ _ _).2 (.inl ⟨busy, rfl⟩)

theorem gatedWrite_of_idle {s : State} (idle : s.busy = false) (e : State) :
    gatedWrite s e = .next (e.respond okayWrite) :=
  (gatedWrite_next _ _ _).2 (.inr ⟨idle, rfl⟩)

/-- A gated write, busy and idle. -/
theorem gatedWrite_by_busy (s e : State) :
    (s.busy = true → gatedWrite s e = .next (s.noteIgnored.respond okayWrite)) ∧
      (s.busy = false → gatedWrite s e = .next (e.respond okayWrite)) :=
  ⟨fun busy => gatedWrite_of_busy busy e, fun idle => gatedWrite_of_idle idle e⟩

/-- Settles O23: the four rows are gated writes; of the others only RD_STATUS looks at BUSY, and only to answer. -/
theorem busyGatesExactlyFourRows : Obligations.BusyGatesExactlyFourRows := by
  refine ⟨fun s w busy i hi => ?gated, fun i s t b ungated h => ?other⟩
  case gated =>
    simp only [List.mem_cons, List.not_mem_nil, or_false] at hi
    rcases hi with rfl | rfl | rfl | rfl <;> exact gatedWrite_of_busy busy _
  case other =>
    cases i with
    | wrCtrlNop w => exact absurd rfl (ungated w).1
    | wrCtrlStart w => exact absurd rfl (ungated w).2.1
    | wrCtrlClear w => exact absurd rfl (ungated w).2.2.1
    | wrSampleData w => exact absurd rfl (ungated w).2.2.2
    | rdStatus => cases h; exact ⟨_, rfl, rfl, absurd rfl⟩
    | _ => cases h; exact ⟨_, rfl, rfl, fun _ => rfl⟩

/-! ### The commands and the input port (R71 to R73, R77) -/

/-- Settles O22: an idle block accepts the sample, and of the accepted sample's fields the slot, the count and the range
test have their own rules. -/
theorem sampleWriteFillsTheNextSlot : Obligations.SampleWriteFillsTheNextSlot := by
  refine fun s w => ⟨decode_transactionWord_write .sampleData w, fun busy => gatedWrite_of_busy busy _,
    fun idle => ⟨(s.acceptSample w).respond okayWrite, gatedWrite_of_idle idle _, rfl, ?count, ?range, ?slots⟩⟩
  case count => exact nextCount_toNat s.scount
  case range =>
    rw [State.respond_rangeFlag, State.acceptSample_rangeFlag, Bool.or_eq_true, sampleOutOfRange_iff, not_and_or,
      not_le, not_le]
  case slots => exact s.slot_acceptSample w

/-- Settles O21: bits 1:0 select the row, and each row is a gated write of its command. -/
theorem controlWritesDoTheirCommand : Obligations.ControlWritesDoTheirCommand := by
  intro s w
  have row : decode (transactionWord true 0x00 w) = decodeCtrlWrite w := decode_transactionWord_write .ctrl w
  refine ⟨fun bits => ⟨?nop, gatedWrite_by_busy s s⟩, fun bits => ⟨?start, gatedWrite_by_busy s s.startEncode⟩,
    fun clear => ⟨?clear, gatedWrite_by_busy s s.clearInput⟩⟩
  case nop =>
    obtain ⟨start, clear⟩ := (commandBits_eq_nop w).1 bits
    rw [row, decodeCtrlWrite_nop start clear]
  case start =>
    obtain ⟨start, clear⟩ := (commandBits_eq_start w).1 bits
    rw [row, decodeCtrlWrite_start start clear]
  case clear => rw [row, decodeCtrlWrite_clear clear]

/-! ### Write-only and read-only registers -/

/-- Settles O13. -/
theorem readsOfWriteOnlyRegistersReturnZero : Obligations.ReadsOfWriteOnlyRegistersReturnZero :=
  fun _ w => ⟨decode_transactionWord_read .ctrl w, rfl, decode_transactionWord_read .sampleData w, rfl⟩

/-- The table words stand one after the other from 0x20 on, four bytes apart (R48). -/
theorem Register.offset_mslut (n : BitVec 3) : (Register.mslut n).offset = 0x20 + 4 * n.zeroExtend 8 := by
  revert n
  decide

/-- The registers the host may not write, but the table words. -/
abbrev readOnlyRegisters : List Register := [.status, .diag, .errinfo, .mslutsel, .mslutstart, .reconData, .origData]

/-- Settles O14: the rows are the writes of the registers that the host may not write. -/
theorem writesToReadOnlyRegistersHaveNoEffect : Obligations.WritesToReadOnlyRegistersHaveNoEffect := by
  intro s w n
  have tableWord := decode_transactionWord_write (.mslut n) w
  rw [Register.offset_mslut] at tableWord
  refine ⟨tableWord, rfl, ?_⟩
  have noEffect : ∀ p ∈ readOnlyRegisters.map fun r => (r.offset, decodeWrite r w),
      decode (transactionWord true p.1 w) = p.2 ∧ exec p.2 s = .next (s.respond okayWrite) := by
    rw [List.forall_mem_map]
    intro r hr
    have readOnly : ∀ r ∈ readOnlyRegisters, r ≠ .ctrl ∧ r ≠ .sampleData ∧ r ≠ .winIdx := by decide
    obtain ⟨ctrl, sample, window⟩ := readOnly r hr
    exact ⟨decode_transactionWord_write r w, exec_decodeWrite_readOnly w s ctrl sample window⟩
  exact noEffect

/-! ### The result registers (R31 to R35) -/

theorem Diag.word_fields (d : Diag) :
    d.word.extractLsb' 0 8 = d.upperCount ∧ d.word.extractLsb' 8 3 = d.nzones ∧ d.word.extractLsb' 11 5 = 0#5 ∧
      d.word.extractLsb' 16 8 = d.maxSample ∧ d.word.extractLsb' 24 8 = 0#8 := by
  simp (disch := decide) only [Diag.word, BitVec.extractLsb'_cast, BitVec.extractLsb'_append_eq_of_le,
    BitVec.extractLsb'_append_eq_of_add_le]
  exact ⟨BitVec.extractLsb'_eq_self, BitVec.extractLsb'_eq_self, BitVec.extractLsb'_eq_self,
    BitVec.extractLsb'_eq_self, BitVec.extractLsb'_eq_self⟩

theorem ErrInfo.word_causes (e : ErrInfo) : e.word.getLsbD 16 = e.countBad ∧ e.word.getLsbD 17 = e.rangeBad := by
  simp only [ErrInfo.word, BitVec.getLsbD_cast, BitVec.getLsbD_append]
  simp

theorem ErrInfo.word_fields (e : ErrInfo) :
    e.word.extractLsb' 0 8 = e.index ∧ e.word.extractLsb' 8 8 = 0#8 ∧ e.word.extractLsb' 18 14 = 0#14 := by
  simp (disch := decide) only [ErrInfo.word, BitVec.extractLsb'_cast, BitVec.extractLsb'_append_eq_of_le,
    BitVec.extractLsb'_append_eq_of_add_le]
  exact ⟨BitVec.extractLsb'_eq_self, BitVec.extractLsb'_eq_self, BitVec.extractLsb'_eq_self⟩

theorem RegisterSet.mslutstart_fields (r : RegisterSet) :
    r.mslutstart.extractLsb' 0 8 = r.startSin ∧ r.mslutstart.extractLsb' 8 8 = 0#8 ∧
      r.mslutstart.extractLsb' 16 8 = r.startSin90 ∧ r.mslutstart.extractLsb' 24 8 = 0#8 := by
  simp (disch := decide) only [RegisterSet.mslutstart, BitVec.extractLsb'_cast, BitVec.extractLsb'_append_eq_of_le,
    BitVec.extractLsb'_append_eq_of_add_le]
  exact ⟨BitVec.extractLsb'_eq_self, BitVec.extractLsb'_eq_self, BitVec.extractLsb'_eq_self,
    BitVec.extractLsb'_eq_self⟩

/-- Settles O16. -/
theorem diagnosticReadsShowTheRecord : Obligations.DiagnosticReadsShowTheRecord := by
  intro s v
  obtain ⟨index, low, high⟩ := s.errinfo.word_fields
  obtain ⟨countBad, rangeBad⟩ := s.errinfo.word_causes
  exact ⟨⟨decode_transactionWord_read .diag v, s.diag.word, rfl, s.diag.word_fields⟩,
    decode_transactionWord_read .errinfo v, s.errinfo.word, rfl, index, low, countBad, rangeBad, high⟩

/-- Settles O17. -/
theorem registerSetReads : Obligations.RegisterSetReads := by
  intro s v n
  have tableWord := decode_transactionWord_read (.mslut n) v
  rw [Register.offset_mslut] at tableWord
  exact ⟨⟨tableWord, s.regs.mslutWord n, Vector.getElem?_eq_getElem n.isLt, rfl⟩,
    ⟨decode_transactionWord_read .mslutsel v, rfl⟩,
    decode_transactionWord_read .mslutstart v, s.regs.mslutstart, rfl, s.regs.mslutstart_fields⟩

/-! ### The window index (R36, R88, R89) -/

/-- The write data's low byte, widened again, is the write data with its upper bits cleared (R9). -/
theorem zext32_windowIndex (w : Word) : zext32 (windowIndex w) = w &&& 0xFF := by
  apply BitVec.eq_of_toNat_eq
  rw [BitVec.toNat_and, show (0xFF : Word).toNat = 2 ^ 8 - 1 from rfl, Nat.and_two_pow_sub_one_eq_mod]
  simp only [zext32, windowIndex, BitVec.truncate_eq_setWidth, BitVec.toNat_setWidth, BitVec.extractLsb'_toNat,
    Nat.shiftRight_zero]
  omega

/-- Settles O18: the read that follows the write shows the index just written. -/
theorem windowIndexWriteThenRead : Obligations.WindowIndexWriteThenRead := by
  intro s v w
  refine ⟨decode_transactionWord_write .winIdx w, decode_transactionWord_read .winIdx v, rfl, rfl, _, rfl, ?_⟩
  rw [← zext32_windowIndex]
  rfl

end Sys2Proof.Machine

/-! PROOFS. The engine's completion step and its function ENCODE (spec/41_encode.md): what each stage answers, that the
greedy zone scan is never beaten and that its registers lead back to the waveform, and from these the invariant of the
result state. -/

namespace Sys2Proof.Machine

/-! ### The completion step (R95) -/

/-- Settles O9: in both cases the step is the engine's turn. -/
theorem stepCompletesAPendingEncode : Obligations.StepCompletesAPendingEncode := by
  intro s es ev
  have turn : step s = .next (s.withEvents es).engineTurn := by
    rcases ev with ev | ⟨ev, rfl⟩
    · exact step_engine ev
    · rw [step_idle ev, show s.withEvents [] = s from ev ▸ rfl]
  rcases (s.withEvents es).engineTurn_cases with ⟨busy, h⟩ | ⟨idle, h⟩ <;> rw [turn, h]
  · exact ⟨fun _ => rfl, fun idle => absurd (idle.symm.trans busy) (by decide)⟩
  · exact ⟨fun busy => absurd (idle.symm.trans busy) (by decide), fun _ => rfl⟩

theorem State.complete_of_success {s : State} {o : EncodeSuccess} (h : s.encodeOutcome = .success o) :
    s.complete = (s.commitSuccess o).endEncode := by
  rw [State.complete, h, State.commit]

theorem State.complete_of_error {s : State} {o : EncodeFailure} (h : s.encodeOutcome = .error o) :
    s.complete = (s.commitError o).endEncode := by
  rw [State.complete, h, State.commit]

/-- Settles O37. -/
theorem completionCommitsTheOutcome : Obligations.CompletionCommitsTheOutcome :=
  fun _ => ⟨fun _ => State.complete_of_success, fun _ => State.complete_of_error⟩

/-- Settles O60. -/
theorem completionEndsInAResultOrAnError : Obligations.CompletionEndsInAResultOrAnError := by
  intro s
  rcases s.complete_cases with ⟨o, -, h⟩ | ⟨o, ho, h⟩ <;> rw [h]
  · simp
  · simpa using encodeWaveform_error_code ho

/-- A completion writes every result and outcome flag, so equal outcomes of ENCODE leave equal ones. -/
theorem State.complete_sameResults {s t : State} (h : s.encodeOutcome = t.encodeOutcome) :
    SameResults s.complete t.complete := by
  rcases s.complete_cases with ⟨o, ho, hs⟩ | ⟨o, ho, hs⟩
  · rw [hs, State.complete_of_success (h ▸ ho)]
    exact ⟨⟨rfl, rfl, rfl⟩, rfl, rfl, rfl, rfl, rfl⟩
  · rw [hs, State.complete_of_error (h ▸ ho)]
    exact ⟨⟨rfl, rfl, rfl⟩, rfl, rfl, rfl, rfl, rfl⟩

/-- Bits 3:0 of STATUS are BUSY and the outcome flags (R20). -/
theorem State.statusWord_outcomeFlags {s t : State} (busy : s.busy = t.busy) (valid : s.valid = t.valid)
    (error : s.error = t.error) (warnAmpl : s.warnAmpl = t.warnAmpl) :
    s.statusWord.extractLsb' 0 4 = t.statusWord.extractLsb' 0 4 := by
  obtain ⟨sBusy, sValid, sError, sWarn, -⟩ := s.statusWord_flags
  obtain ⟨tBusy, tValid, tError, tWarn, -⟩ := t.statusWord_flags
  apply BitVec.eq_of_getLsbD_eq
  intro i hi
  rw [BitVec.getLsbD_extractLsb', BitVec.getLsbD_extractLsb', Nat.zero_add]
  match i, hi with
  | 0, _ => rw [sBusy, tBusy, busy]
  | 1, _ => rw [sValid, tValid, valid]
  | 2, _ => rw [sError, tError, error]
  | 3, _ => rw [sWarn, tWarn, warnAmpl]

/-- Settles O52: the outcome of ENCODE is a function of the samples, the count and the range flag. -/
theorem encodeIsAFunctionOfTheWaveform : Obligations.EncodeIsAFunctionOfTheWaveform := by
  intro s t slots sCount tCount sRange tRange
  have waveform : t.waveform = s.waveform := List.map_congr_left fun k hk => (slots k (List.mem_range.1 hk)).symm
  have outcome : t.encodeOutcome = s.encodeOutcome := by
    simp only [State.encodeOutcome, waveform, sCount, tCount, sRange, tRange]
  have same := State.complete_sameResults outcome
  obtain ⟨-, sCode, -⟩ := s.complete.statusWord_fields
  obtain ⟨-, tCode, -⟩ := t.complete.statusWord_fields
  exact ⟨same.regs, same.diag, same.errinfo,
    State.statusWord_outcomeFlags (same.idle.trans t.complete_busy.symm) same.valid same.error same.warnAmpl,
    by rw [sCode, tCode, same.errcode]⟩

/-! ### The stages in order (R96) -/

/-- The registers that the stages after the scan pack (R105 to R111). -/
def packedRegisters (smp : List Byte) (zs : List Zone) : RegisterSet :=
  packRegisters (fillZones zs) (tableBits (fillZones zs) (deltas smp)) smp

/-- The success that they answer (R113, R114). -/
def packedResult (smp : List Byte) (zs : List Zone) (maxs : Byte) : EncodeSuccess :=
  ⟨packedRegisters smp zs, upperCount (tableBits (fillZones zs) (deltas smp)), BitVec.ofNat 3 zs.length, maxs,
    amplitudeWarning maxs⟩

/-- What the stages after the amplitude stage answer: the fault of the first one that fails, or the packed result. -/
inductive Quantized (smp : List Byte) (maxs : Byte) : EncodeOutcome → Prop where
  | step {i : Nat} (bad : stepFailure (deltas smp) 0 = some i) : Quantized smp maxs (failAt .step i maxs)
  | pattern {i : Nat} (small : stepFailure (deltas smp) 0 = none) (fifth : scanZones (deltas smp) = .error i) :
      Quantized smp maxs (failAt .pattern i maxs)
  | internal {zs : List Zone} {k : Nat} (small : stepFailure (deltas smp) 0 = none)
      (zones : scanZones (deltas smp) = .ok zs)
      (mismatch : firstMismatch (recon (packedRegisters smp zs)) smp 0 = some k) :
      Quantized smp maxs (failAt .internal k maxs)
  | packed {zs : List Zone} (small : stepFailure (deltas smp) 0 = none) (zones : scanZones (deltas smp) = .ok zs)
      (verified : firstMismatch (recon (packedRegisters smp zs)) smp 0 = none) :
      Quantized smp maxs (.success (packedResult smp zs maxs))

theorem quantizeAndPack_quantized (smp : List Byte) (maxs : Byte) :
    Quantized smp maxs (quantizeAndPack smp maxs) := by
  simp only [quantizeAndPack, packAndVerify]
  split
  next bad => exact .step bad
  next small =>
    split
    next fifth => exact .pattern small fifth
    next zones =>
      split
      next mismatch => exact .internal small zones mismatch
      next verified => exact .packed small zones verified

/-! ### Step 1: shape and amplitude (R97, R98) -/

theorem count_ne_iff (cnt : BitVec 9) : (cnt != 256#9) = decide (cnt.toNat ≠ 256) := by
  rw [bne, Bool.beq_eq_decide_eq, ← decide_not]
  exact decide_eq_decide.2 (not_congr BitVec.toNat_inj.symm)

theorem shapeBad_iff (cnt : BitVec 9) (rng : Bool) : shapeBad cnt rng = true ↔ cnt.toNat ≠ 256 ∨ rng = true := by
  rw [shapeBad, count_ne_iff, Bool.or_eq_true, decide_eq_true_iff]

theorem encodeWaveform_of_shapeBad {cnt : BitVec 9} {rng : Bool} (bad : shapeBad cnt rng = true) (smp : List Byte) :
    encodeWaveform smp cnt rng = .error ⟨.shape, 0, decide (cnt.toNat ≠ 256), rng, 0, false⟩ := by
  rw [encodeWaveform, if_pos bad, count_ne_iff]

theorem encodeWaveform_of_shapeGood {cnt : BitVec 9} {rng : Bool} (good : ¬shapeBad cnt rng = true)
    (smp : List Byte) : encodeWaveform smp cnt rng = quantizeAndPack smp (maxSample smp) := by
  rw [encodeWaveform, if_neg good]

/-- Past the shape check ENCODE is the stages after it. -/
theorem encodeWaveform_loaded (smp : List Byte) :
    encodeWaveform smp 256 false = quantizeAndPack smp (maxSample smp) :=
  encodeWaveform_of_shapeGood (by decide) smp

theorem encodeWaveform_quantized (smp : List Byte) :
    Quantized smp (maxSample smp) (encodeWaveform smp 256 false) :=
  encodeWaveform_loaded smp ▸ quantizeAndPack_quantized smp (maxSample smp)

/-- No later stage records a shape cause (R126). -/
theorem Quantized.noShapeCause {smp : List Byte} {maxs : Byte} {o : EncodeFailure}
    (h : Quantized smp maxs (.error o)) : o.code ≠ .shape ∧ o.countBad = false ∧ o.rangeBad = false := by
  cases h with
  | step | pattern | internal => exact ⟨nofun, rfl, rfl⟩

/-- Settles O38. -/
theorem shapeErrorExactlyOnCountOrRange : Obligations.ShapeErrorExactlyOnCountOrRange := by
  refine fun smp cnt rng => ⟨fun bad => encodeWaveform_of_shapeBad ((shapeBad_iff cnt rng).2 bad) smp, ?_⟩
  rintro ⟨count, range⟩ o h
  have good : ¬shapeBad cnt rng = true := by simp [shapeBad_iff, count, range]
  rw [encodeWaveform_of_shapeGood good] at h
  exact (h ▸ quantizeAndPack_quantized smp (maxSample smp)).noShapeCause

/-- The running maximum is one of the values it has seen, and none of them exceeds it. -/
theorem runningMax_spec (smp : List Byte) (m : Byte) :
    let top := smp.foldl (fun m v => if m.toNat < v.toNat then v else m) m
    top ∈ m :: smp ∧ ∀ v ∈ m :: smp, v.toNat ≤ top.toNat := by
  induction smp generalizing m with
  | nil => simp
  | cons a smp ih =>
    simp only [List.foldl_cons, List.mem_cons, forall_eq_or_imp] at ih ⊢
    by_cases larger : m.toNat < a.toNat
    · obtain ⟨mem, top, rest⟩ := ih a
      simp only [larger, if_true]
      exact ⟨.inr mem, by omega, top, rest⟩
    · obtain ⟨mem, top, rest⟩ := ih m
      simp only [larger, if_false]
      exact ⟨mem.imp_right .inr, top, by omega, rest⟩

theorem le_maxSample {smp : List Byte} {v : Byte} (h : v ∈ smp) : v.toNat ≤ (maxSample smp).toNat :=
  (runningMax_spec smp 0).2 v (List.mem_cons_of_mem _ h)

/-- The maximum starts from 0, which only samples that are all 0 do not exceed. -/
theorem maxSample_mem {smp : List Byte} (h : smp ≠ []) : maxSample smp ∈ smp := by
  rcases List.mem_cons.1 (runningMax_spec smp 0).1 with zero | mem
  · obtain ⟨v, hv⟩ := List.exists_mem_of_ne_nil smp h
    have least := le_maxSample hv
    have top : maxSample smp = 0 := zero
    obtain rfl : v = maxSample smp := by
      rw [top] at least ⊢
      exact BitVec.eq_of_toNat_eq (Nat.le_zero.1 least)
    exact hv
  · exact mem

theorem amplitudeWarning_iff (maxs : Byte) : amplitudeWarning maxs = true ↔ 247 < maxs.toNat := decide_eq_true_iff

/-- Settles O39: each of the later stages' outcomes carries the two values it is given. -/
theorem amplitudeIsReportedByEveryOutcome : Obligations.AmplitudeIsReportedByEveryOutcome := by
  intro smp len
  have nonempty : smp ≠ [] := List.ne_nil_of_length_pos (by omega)
  refine ⟨maxSample smp, amplitudeWarning (maxSample smp), maxSample_mem nonempty, fun v => le_maxSample,
    amplitudeWarning_iff _, fun o h => ?success, fun o h => ?error⟩
  case success =>
    have outcome := h ▸ encodeWaveform_quantized smp
    cases outcome with
    | packed => exact ⟨rfl, rfl⟩
  case error =>
    have outcome := h ▸ encodeWaveform_quantized smp
    cases outcome with
    | step | pattern | internal => exact ⟨rfl, rfl⟩

/-! ### Step 2: the delta quantizer (R99, R100) -/

/-- Delta `i` of a whole buffer is the difference of the samples `i + 1` and `i` (R99). -/
theorem deltas_getElem?_getD {smp : List Byte} (len : smp.length = 256) {i : Nat} (hi : i < 255) :
    (deltas smp)[i]? = some (((smp.getD (i + 1) 0).toNat : Int) - (smp.getD i 0).toNat) := by
  have next : i + 1 < smp.length := by omega
  rw [deltas_getElem? smp i next, List.getD_eq_getElem _ _ next, List.getD_eq_getElem _ _ (by omega)]

theorem stepBad_eq_false_iff (d : Int) : stepBad d = false ↔ 0 ≤ d ∧ d ≤ 3 := by
  rw [stepBad, decide_eq_false_iff_not]
  omega

theorem stepFailure_eq_findIdx? (ds : List Int) (i : Nat) : stepFailure ds i = (ds.findIdx? stepBad).map (· + i) := by
  induction ds generalizing i with
  | nil => rfl
  | cons d ds ih =>
    rw [stepFailure, List.findIdx?_cons]
    split
    · simp
    · rw [ih, Option.map_map]
      congr 1
      funext j
      simp only [Function.comp]
      omega

theorem stepFailure_eq_none_iff (ds : List Int) : stepFailure ds 0 = none ↔ ∀ d ∈ ds, 0 ≤ d ∧ d ≤ 3 := by
  simp only [stepFailure_eq_findIdx?, Option.map_eq_none_iff, List.findIdx?_eq_none_iff, stepBad_eq_false_iff]

/-- The first bad delta is the one STEP_CHECK answers (R100). -/
theorem stepFailure_of_first {ds : List Int} {i : Nat} {d : Int} (at_i : ds[i]? = some d) (bad : d < 0 ∨ 3 < d)
    (before : ∀ j d, j < i → ds[j]? = some d → 0 ≤ d ∧ d ≤ 3) : stepFailure ds 0 = some i := by
  obtain ⟨hi, rfl⟩ := List.getElem?_eq_some_iff.1 at_i
  have first : ds.findIdx? stepBad = some i := by
    refine List.findIdx?_eq_some_iff_getElem.2 ⟨hi, decide_eq_true bad, fun j hj => ?_⟩
    rw [Bool.not_eq_true, stepBad_eq_false_iff]
    exact before j _ hj (List.getElem?_eq_getElem _)
  rw [stepFailure_eq_findIdx?, first]
  rfl

/-- A bad step at `i` ends the encode in STEP, whatever follows. -/
theorem encodeWaveform_of_stepFailure {smp : List Byte} {i : Nat} (h : stepFailure (deltas smp) 0 = some i) :
    encodeWaveform smp 256 false = failAt .step i (maxSample smp) := by
  rw [encodeWaveform_loaded, quantizeAndPack]
  simp only [h]

/-- An index field holds a delta index (R127). -/
theorem toNat_ofNat_index {i : Nat} (h : i ≤ 255) : (BitVec.ofNat 8 i).toNat = i :=
  Nat.mod_eq_of_lt (by omega)

/-- Settles O40. -/
theorem stepErrorNamesTheFirstBadDelta : Obligations.StepErrorNamesTheFirstBadDelta := by
  intro smp len
  refine ⟨fun i hi bad before => ?bad, fun small o h => ?good⟩
  case bad =>
    have first : stepFailure (deltas smp) 0 = some i := by
      refine stepFailure_of_first (deltas_getElem?_getD len hi) bad fun j d hj hd => ?_
      obtain rfl := Option.some.inj ((deltas_getElem?_getD len (by omega)).symm.trans hd)
      exact before j hj
    exact ⟨_, encodeWaveform_of_stepFailure first, rfl, toNat_ofNat_index (by omega), rfl, rfl⟩
  case good =>
    have noFailure : stepFailure (deltas smp) 0 = none := by
      refine (stepFailure_eq_none_iff _).2 fun d hd => ?_
      obtain ⟨i, hi⟩ := List.mem_iff_getElem?.1 hd
      have inside : i < 255 := by
        have inside := (List.getElem?_eq_some_iff.1 hi).1
        rwa [deltas_length, len] at inside
      obtain rfl := Option.some.inj ((deltas_getElem?_getD len inside).symm.trans hi)
      exact small i inside
    have outcome := h ▸ encodeWaveform_quantized smp
    cases outcome with
    | step bad => rw [noFailure] at bad; cases bad
    | pattern | internal => nofun

end Sys2Proof.Machine

/-! PROOFS. The zone scan (spec/41_encode.md R101 to R105): its masks hold the bases that admit the open zone, it closes
a zone only where no base admits the next delta, and so no cut into runs of one base reaches further than it does. -/

namespace Sys2Proof.Machine

/-! ### Runs of one base (R101) -/

/-- Some base admits every delta from index `lo` up to, not including, index `hi`, the base being any integer. -/
def OneBase (d : List Int) (lo hi : Nat) : Prop :=
  ∃ b : Int, ∀ (i : Nat) (v : Int), lo ≤ i → i < hi → d[i]? = some v → v = b ∨ v = b + 1

/-- The first `n` deltas can be cut into `k` runs of one base each. -/
def Runs (d : List Int) : (k n : Nat) → Prop
  | 0, n => n = 0
  | k + 1, n => ∃ m, m ≤ n ∧ Runs d k m ∧ OneBase d m n

/-- Every delta is one that STEP_CHECK lets pass (R100). -/
abbrev SmallSteps (d : List Int) : Prop := ∀ v ∈ d, 0 ≤ v ∧ v ≤ 3

/-- The least base that admits the deltas from index `lo` up to, not including, index `hi`; every width code has a
place for it. -/
structure LeastBase (d : List Int) (lo hi b : Nat) : Prop where
  covers : BaseCovers d lo hi b
  least : ∀ c, BaseCovers d lo hi c → b ≤ c
  lt_three : b < 3

theorem BaseCovers.oneBase {d : List Int} {lo hi b : Nat} (h : BaseCovers d lo hi b) : OneBase d lo hi := ⟨b, h⟩

/-- Deltas 0 to 3 that an integer base admits have a base of their own among 0, 1 and 2 (R101). -/
theorem OneBase.baseCovers {d : List Int} {lo hi : Nat} (small : SmallSteps d) (h : OneBase d lo hi) :
    ∃ b, b < 3 ∧ BaseCovers d lo hi b := by
  obtain ⟨b, cover⟩ := h
  obtain ⟨c, hc⟩ : ∃ c : Nat, (c : Int) = max 0 (min b 2) := ⟨(max 0 (min b 2)).toNat, by omega⟩
  refine ⟨c, by omega, fun i v low high hv => ?_⟩
  have admitted := cover i v low high hv
  have range := small v (List.mem_of_getElem? hv)
  omega

theorem OneBase.mono {d : List Int} {lo hi lo' hi' : Nat} (h : OneBase d lo hi) (low : lo ≤ lo') (high : hi' ≤ hi) :
    OneBase d lo' hi' := by
  obtain ⟨b, cover⟩ := h
  exact ⟨b, fun i v hlo hhi => cover i v (low.trans hlo) (hhi.trans_le high)⟩

theorem oneBase_empty (d : List Int) (n : Nat) : OneBase d n n := ⟨0, fun _ _ _ _ => by omega⟩

theorem oneBase_single (d : List Int) (n : Nat) : OneBase d n (n + 1) := by
  refine ⟨d[n]?.getD 0, fun i v low high hv => ?_⟩
  obtain rfl : i = n := by omega
  simp [hv]

/-- One more delta asks that the base admits it too. -/
theorem baseCovers_succ {d : List Int} {lo i b : Nat} {v : Int} (low : lo ≤ i) (hv : d[i]? = some v) :
    BaseCovers d lo (i + 1) b ↔ BaseCovers d lo i b ∧ (v = b ∨ v = b + 1) := by
  constructor
  · exact fun h => ⟨fun j w hlo hhi => h j w hlo (by omega), h i v low (by omega) hv⟩
  · rintro ⟨before, last⟩ j w hlo hhi hw
    by_cases hj : j = i
    · subst hj
      obtain rfl := Option.some.inj (hv.symm.trans hw)
      exact last
    · exact before j w hlo (by omega) hw

/-! ### Cuts into runs (R102) -/

/-- A cut of more deltas cuts the first ones of them. -/
theorem Runs.shorten {d : List Int} {k n n' : Nat} (h : Runs d k n) (le : n' ≤ n) : Runs d k n' := by
  induction k generalizing n n' with
  | zero => rw [Runs] at h ⊢; omega
  | succ k ih =>
    obtain ⟨m, hm, rest, run⟩ := h
    refine ⟨min m n', by omega, ih rest (by omega), ?_⟩
    by_cases short : m ≤ n'
    · exact run.mono (by omega) le
    · rw [Nat.min_eq_right (by omega)]
      exact oneBase_empty d n'

theorem Runs.succ {d : List Int} {k n : Nat} (h : Runs d k n) : Runs d (k + 1) n := ⟨n, le_rfl, h, oneBase_empty d n⟩

/-- A run may be empty, so more runs are never worse. -/
theorem Runs.mono {d : List Int} {k k' n : Nat} (h : Runs d k n) (le : k ≤ k') : Runs d k' n := by
  induction le with
  | refl => exact h
  | step _ ih => exact ih.succ

/-- The cut that three indices give is a cut into four runs, and the other way round. -/
theorem fourRunsCover_take_iff (d : List Int) (n : Nat) : FourRunsCover (d.take n) ↔ Runs d 4 n := by
  constructor
  · rintro ⟨x1, x2, x3, b0, b1, b2, b3, h12, h23, cover⟩
    have cover : ∀ i v, i < n → d[i]? = some v → _ :=
      fun i v hi hv => cover i v ((List.getElem?_take_of_lt hi).trans hv)
    refine ⟨min x3 n, by omega, ⟨min x2 n, by omega, ⟨min x1 n, by omega, ⟨0, by omega, rfl, b0, ?_⟩, b1, ?_⟩,
      b2, ?_⟩, b3, ?_⟩ <;> intro i v low high hv
    · have admitted := cover i v (by omega) hv
      rwa [if_neg (by omega), if_neg (by omega), if_neg (by omega)] at admitted
    · have admitted := cover i v (by omega) hv
      rwa [if_neg (by omega), if_neg (by omega), if_pos (by omega)] at admitted
    · have admitted := cover i v (by omega) hv
      rwa [if_neg (by omega), if_pos (by omega)] at admitted
    · have admitted := cover i v (by omega) hv
      rwa [if_pos (by omega)] at admitted
  · rintro ⟨x3, h3, ⟨x2, h2, ⟨x1, h1, ⟨x0, -, rfl, b0, run0⟩, b1, run1⟩, b2, run2⟩, b3, run3⟩
    refine ⟨x1, x2, x3, b0, b1, b2, b3, h1, h2, fun i v hv => ?_⟩
    have hi : i < n := by
      have inside := (List.getElem?_eq_some_iff.1 hv).1
      rw [List.length_take] at inside
      omega
    rw [List.getElem?_take_of_lt hi] at hv
    dsimp only
    split_ifs with after3 after2 after1
    · exact run3 i v after3 hi hv
    · exact run2 i v after2 (by omega) hv
    · exact run1 i v after1 (by omega) hv
    · exact run0 i v (by omega) (by omega) hv

theorem fourRunsCover_iff (d : List Int) : FourRunsCover d ↔ Runs d 4 d.length := by
  rw [← fourRunsCover_take_iff, List.take_length]

/-! ### The masks (R101, R103) -/

/-- Bit `b` of the mask of a delta says that base `b` admits it (R101). -/
theorem admissible_getLsbD {d : Int} {b : Nat} (low : 0 ≤ d) (high : d ≤ 3) (hb : b < 3) :
    (admissible d).getLsbD b = true ↔ d = b ∨ d = b + 1 := by
  have table : ∀ d : Fin 4, ∀ b : Fin 3,
      (admissible (d.val : Int)).getLsbD b.val = true ↔ (d.val : Int) = b.val ∨ (d.val : Int) = b.val + 1 := by
    decide
  obtain ⟨n, rfl⟩ := Int.eq_ofNat_of_zero_le low
  exact table ⟨n, by omega⟩ ⟨b, hb⟩

/-- The tie-break takes the lowest bit of a mask that is set (R103). -/
theorem lowbit_spec : ∀ m : BitVec 3, m ≠ 0 →
    lowbit m < 3 ∧ m.getLsbD (lowbit m) = true ∧ ∀ b, b < lowbit m → m.getLsbD b = false := by
  decide

/-- Settles O41. -/
theorem masksAdmitTheTwoDeltasOfABase : Obligations.MasksAdmitTheTwoDeltasOfABase :=
  ⟨fun _ _ => admissible_getLsbD, lowbit_spec⟩

/-- The mask holds exactly the bases that admit the deltas from `lo` up to, not including, `hi`. -/
def MaskCovers (d : List Int) (lo hi : Nat) (m : BitVec 3) : Prop :=
  ∀ b, b < 3 → (m.getLsbD b = true ↔ BaseCovers d lo hi b)

/-- An empty zone admits every base (R102). -/
theorem maskCovers_empty (d : List Int) (n : Nat) : MaskCovers d n n 0b111#3 := by
  intro b hb
  have full : ∀ b : Fin 3, (0b111#3).getLsbD b.val = true := by decide
  exact iff_of_true (full ⟨b, hb⟩) fun _ _ _ _ => by omega

/-- The open zone takes a delta in by intersecting the masks (R102). -/
theorem MaskCovers.and {d : List Int} {lo i : Nat} {m : BitVec 3} {v : Int} (h : MaskCovers d lo i m) (low : lo ≤ i)
    (small : SmallSteps d) (hv : d[i]? = some v) : MaskCovers d lo (i + 1) (m &&& admissible v) := by
  intro b hb
  obtain ⟨hlo, hhi⟩ := small v (List.mem_of_getElem? hv)
  rw [BitVec.getLsbD_and, Bool.and_eq_true, h b hb, admissible_getLsbD hlo hhi hb, baseCovers_succ low hv]

/-- A zone that opens at a delta has that delta's mask. -/
theorem maskCovers_admissible {d : List Int} {i : Nat} {v : Int} (small : SmallSteps d) (hv : d[i]? = some v) :
    MaskCovers d i (i + 1) (admissible v) := by
  have first := (maskCovers_empty d i).and le_rfl small hv
  rwa [show (0b111#3) = BitVec.allOnes 3 from rfl, BitVec.allOnes_and] at first

/-- The mask is empty exactly where no base, of any integer, admits the deltas. -/
theorem MaskCovers.eq_zero_iff {d : List Int} {lo hi : Nat} {m : BitVec 3} (h : MaskCovers d lo hi m)
    (small : SmallSteps d) : m = 0 ↔ ¬OneBase d lo hi := by
  constructor
  · rintro rfl run
    obtain ⟨b, hb, cover⟩ := run.baseCovers small
    simpa using (h b hb).2 cover
  · intro none
    by_contra nonzero
    obtain ⟨lt, set, -⟩ := lowbit_spec m nonzero
    exact none ((h _ lt).1 set).oneBase

theorem MaskCovers.leastBase {d : List Int} {lo hi : Nat} {m : BitVec 3} (h : MaskCovers d lo hi m) (nonzero : m ≠ 0) :
    LeastBase d lo hi (lowbit m) := by
  obtain ⟨lt, set, below⟩ := lowbit_spec m nonzero
  refine ⟨(h _ lt).1 set, fun c cover => ?_, lt⟩
  by_contra less
  have clear := below c (by omega)
  rw [(h c (by omega)).2 cover] at clear
  cases clear

/-! ### What the scan answers (R102 to R104) -/

/-- The scan by its zones, with `closed` the zones already closed and `start` the first index of the open one: the open
zone reaches the end, or it ends where no base admits the next delta, which starts the next zone or is one too many. -/
inductive Scan (d : List Int) : (closed : List Zone) → (start : Nat) → Except Nat (List Zone) → Prop where
  | last {closed : List Zone} {start b : Nat} (room : start < d.length) (least : LeastBase d start d.length b) :
      Scan d closed start (.ok (closed ++ [⟨start, b⟩]))
  | next {closed : List Zone} {start i b : Nat} {r : Except Nat (List Zone)} (grows : start < i) (room : i < d.length)
      (least : LeastBase d start i b) (stuck : ¬OneBase d start (i + 1)) (more : closed.length + 1 ≠ 4)
      (rest : Scan d (closed ++ [⟨start, b⟩]) i r) : Scan d closed start r
  | fifth {closed : List Zone} {start i : Nat} (room : i < d.length) (run : OneBase d start i)
      (stuck : ¬OneBase d start (i + 1)) (full : closed.length + 1 = 4) (grows : start < i) :
      Scan d closed start (.error i)

theorem zoneScan_scan {d : List Int} (small : SmallSteps d) {ds : List Int} {i : Nat} {closed : List Zone}
    {start : Nat} {m : BitVec 3} (suffix : d.drop i = ds) (le : i ≤ d.length) (low : start ≤ i)
    (room : start < d.length) (mask : MaskCovers d start i m) (nonzero : m ≠ 0) :
    Scan d closed start (zoneScan ds i closed start m) := by
  induction ds generalizing i closed start m with
  | nil =>
    obtain rfl : i = d.length := le.antisymm (List.drop_eq_nil_iff.1 suffix)
    exact .last room (mask.leastBase nonzero)
  | cons v ds ih =>
    have hv : d[i]? = some v := by rw [← List.head?_drop, suffix, List.head?_cons]
    have hi : i < d.length := (List.getElem?_eq_some_iff.1 hv).1
    have suffix' : d.drop (i + 1) = ds := by rw [← List.tail_drop, suffix, List.tail_cons]
    have mask' := mask.and low small hv
    rw [zoneScan]
    split
    next empty =>
      have stuck : ¬OneBase d start (i + 1) := (mask'.eq_zero_iff small).1 empty
      have grows : start < i := low.lt_of_ne fun eq => stuck (eq ▸ oneBase_single d start)
      split
      next full => exact .fifth hi (mask.leastBase nonzero).covers.oneBase stuck full grows
      next more =>
        have opened := maskCovers_admissible small hv
        refine .next grows hi (mask.leastBase nonzero) stuck more (ih suffix' hi (Nat.le_succ i) hi opened ?_)
        exact fun zero => (opened.eq_zero_iff small).1 zero (oneBase_single d i)
    next fits => exact ih suffix' hi (low.trans (Nat.le_succ i)) room mask' fits

theorem scanZones_scan {d : List Int} (small : SmallSteps d) (nonempty : 0 < d.length) : Scan d [] 0 (scanZones d) :=
  zoneScan_scan small rfl (Nat.zero_le _) le_rfl nonempty (maskCovers_empty d 0) (by decide)

/-! ### The scan is never beaten (R102, R104) -/

/-- If no cut into as many runs as are closed reaches past the open zone's start, then no cut with one run more reaches
past the delta that the open zone does not admit. -/
theorem Runs.le_of_stuck {d : List Int} {k start i n : Nat} (reach : ∀ n, Runs d k n → n ≤ start)
    (stuck : ¬OneBase d start (i + 1)) (h : Runs d (k + 1) n) : n ≤ i := by
  obtain ⟨m, -, before, run⟩ := h
  by_contra beyond
  exact stuck (run.mono (reach m before) (by omega))

/-- A fifth zone would begin where four runs no longer suffice. -/
theorem Scan.fifth_index {d : List Int} {closed : List Zone} {start : Nat} {r : Except Nat (List Zone)}
    (h : Scan d closed start r) (cut : Runs d closed.length start) (reach : ∀ n, Runs d closed.length n → n ≤ start)
    {i : Nat} (fails : r = .error i) : i < d.length ∧ Runs d 4 i ∧ ¬Runs d 4 (i + 1) := by
  induction h with
  | last => cases fails
  | next grows _ least stuck _ _ ih =>
    rw [List.length_append, List.length_singleton] at ih
    exact ih ⟨_, grows.le, cut, least.covers.oneBase⟩ (fun n => Runs.le_of_stuck reach stuck) fails
  | fifth room run stuck full grows =>
    cases fails
    rw [← full]
    refine ⟨room, ⟨_, grows.le, cut, run⟩, fun longer => ?_⟩
    have short := longer.le_of_stuck reach stuck
    omega

theorem scanZones_error {d : List Int} (small : SmallSteps d) (nonempty : 0 < d.length) {i : Nat}
    (h : scanZones d = .error i) : i < d.length ∧ Runs d 4 i ∧ ¬Runs d 4 (i + 1) :=
  (scanZones_scan small nonempty).fifth_index rfl (fun _ => Nat.le_of_eq) h

/-! ### The zones of a scan that ends (R102, R103) -/

/-- The zones from index `start` on: each has the least base of its deltas, and the next one begins at the first delta
that no base of it admits. -/
inductive Greedy (d : List Int) : (start : Nat) → List Zone → Prop where
  | last {start b : Nat} (room : start < d.length) (least : LeastBase d start d.length b) : Greedy d start [⟨start, b⟩]
  | cons {start i b : Nat} {zs : List Zone} (grows : start < i) (least : LeastBase d start i b)
      (stuck : ¬OneBase d start (i + 1)) (rest : Greedy d i zs) : Greedy d start (⟨start, b⟩ :: zs)

theorem Scan.greedy {d : List Int} {closed : List Zone} {start : Nat} {r : Except Nat (List Zone)}
    (h : Scan d closed start r) (few : closed.length < 4) {zs : List Zone} (done : r = .ok zs) :
    ∃ found, zs = closed ++ found ∧ zs.length ≤ 4 ∧ Greedy d start found := by
  induction h with
  | last room least =>
    cases done
    exact ⟨_, rfl, by rw [List.length_append, List.length_singleton]; omega, .last room least⟩
  | next grows _ least stuck more _ ih =>
    obtain ⟨found, rfl, count, rest⟩ := ih (by rw [List.length_append, List.length_singleton]; omega) done
    exact ⟨_, List.append_assoc _ _ _, count, .cons grows least stuck rest⟩
  | fifth => cases done

theorem scanZones_ok {d : List Int} (small : SmallSteps d) (nonempty : 0 < d.length) {zs : List Zone}
    (h : scanZones d = .ok zs) : zs.length ≤ 4 ∧ Greedy d 0 zs := by
  obtain ⟨found, rfl, count, greedy⟩ := (scanZones_scan small nonempty).greedy (by decide) h
  exact ⟨count, greedy⟩

/-- Greedy zones are a cut into runs. -/
theorem Greedy.runs {d : List Int} {start k : Nat} {zs : List Zone} (h : Greedy d start zs) (before : Runs d k start) :
    Runs d (k + zs.length) d.length := by
  induction h generalizing k with
  | last room least => exact ⟨_, room.le, before, least.covers.oneBase⟩
  | cons grows least _ _ ih =>
    rw [List.length_cons, ← Nat.add_assoc, Nat.add_right_comm]
    exact ih (k := k + 1) ⟨_, grows.le, before, least.covers.oneBase⟩

/-- The scan ends exactly where four runs suffice. -/
theorem fourRunsCover_iff_scanZones_ok {d : List Int} (small : SmallSteps d) (nonempty : 0 < d.length) :
    FourRunsCover d ↔ ∃ zs, scanZones d = .ok zs := by
  rw [fourRunsCover_iff]
  cases h : scanZones d with
  | ok zs =>
    obtain ⟨count, greedy⟩ := scanZones_ok small nonempty h
    exact iff_of_true ((greedy.runs (k := 0) rfl).mono (by omega)) ⟨zs, rfl⟩
  | error i =>
    obtain ⟨inside, -, none⟩ := scanZones_error small nonempty h
    exact iff_of_false (fun runs => none (runs.shorten inside)) nofun

end Sys2Proof.Machine

/-! PROOFS. From the zones to the registers (spec/41_encode.md R105 to R113): the table and the control word read back
as they were packed, so the packed registers reconstruct the waveform; what a successful and a failing encode commit. -/

namespace Sys2Proof.Machine

/-! ### The boundaries and bases of the zones (R105) -/

/-- Where zone `k` starts after FILL_ZONES: 255 for a zone the scan did not need. -/
def zoneBound (zs : List Zone) (k : Nat) : Nat := (zs[k]?.map Zone.start).getD 255

theorem zoneStart_eq_ofNat (zs : List Zone) (k : Nat) : zoneStart zs k = BitVec.ofNat 8 (zoneBound zs k) := by
  rw [zoneStart, zoneBound]
  cases zs[k]? <;> rfl

theorem zoneBound_of_ge {zs : List Zone} {k : Nat} (h : zs.length ≤ k) : zoneBound zs k = 255 := by
  rw [zoneBound, List.getElem?_eq_none h]
  rfl

theorem zoneBound_cons_succ (z : Zone) (zs : List Zone) (k : Nat) :
    zoneBound (z :: zs) (k + 1) = zoneBound zs k := by
  rw [zoneBound, zoneBound, List.getElem?_cons_succ]

theorem zoneBase_cons_succ (z : Zone) {zs : List Zone} {k : Nat} (h : k < zs.length) :
    zoneBase (z :: zs) (k + 1) = zoneBase zs k := by
  simp only [zoneBase, List.getElem?_cons_succ, List.getElem?_eq_getElem h]

/-- The zones that were not needed repeat the last found zone's base (R105). -/
theorem zoneBase_filled {zs : List Zone} {j k : Nat} (last : j + 1 = zs.length) (unused : zs.length ≤ k) :
    zoneBase zs k = zoneBase zs j := by
  have found : zs[j]? = some zs[j] := List.getElem?_eq_getElem _
  rw [zoneBase, zoneBase, List.getElem?_eq_none unused, found, List.getLast?_eq_getElem?,
    show zs.length - 1 = j by omega, found]
  rfl

/-- Zone `j`, which the scan found in the deltas of a whole waveform. -/
structure FoundZone (d : List Int) (zs : List Zone) (j : Nat) : Prop where
  grows : zoneBound zs j < zoneBound zs (j + 1)
  inside : zoneBound zs (j + 1) ≤ 255
  least : LeastBase d (zoneBound zs j) (zoneBound zs (j + 1)) (zoneBase zs j)
  stuck : j + 1 < zs.length → ¬OneBase d (zoneBound zs j) (zoneBound zs (j + 1) + 1)

theorem Greedy.zoneBound_zero {d : List Int} {start : Nat} {zs : List Zone} (h : Greedy d start zs) :
    zoneBound zs 0 = start := by
  cases h <;> rfl

theorem Greedy.length_pos {d : List Int} {start : Nat} {zs : List Zone} (h : Greedy d start zs) : 0 < zs.length := by
  cases h <;> exact Nat.succ_pos _

theorem Greedy.foundZone {d : List Int} (len : d.length = 255) {start : Nat} {zs : List Zone} (h : Greedy d start zs)
    {j : Nat} (hj : j < zs.length) : FoundZone d zs j := by
  induction h generalizing j with
  | last room least =>
    obtain rfl : j = 0 := Nat.lt_one_iff.1 hj
    rw [len] at room least
    exact ⟨room, le_rfl, least, fun more => absurd more (lt_irrefl 1)⟩
  | @cons start i b zs grows least stuck rest ih =>
    cases j with
    | zero =>
      have second := ih rest.length_pos
      obtain rfl := rest.zoneBound_zero
      exact ⟨grows, second.grows.le.trans second.inside, least, fun _ => stuck⟩
    | succ j =>
      have inner : j < zs.length := Nat.lt_of_succ_lt_succ hj
      obtain ⟨grows, inside, least, stuck⟩ := ih inner
      constructor <;> simp only [zoneBound_cons_succ, zoneBase_cons_succ _ inner]
      · exact grows
      · exact inside
      · exact least
      · exact fun more => stuck (Nat.lt_of_succ_lt_succ more)

/-- What the scan of a whole waveform's deltas answers: one to four zones, found one after the other from index 0. -/
structure WholeScan (d : List Int) (zs : List Zone) : Prop where
  pos : 0 < zs.length
  few : zs.length ≤ 4
  first : zoneBound zs 0 = 0
  found : ∀ j, j < zs.length → FoundZone d zs j

theorem scanZones_wholeScan {d : List Int} (small : SmallSteps d) (len : d.length = 255) {zs : List Zone}
    (h : scanZones d = .ok zs) : WholeScan d zs := by
  obtain ⟨few, greedy⟩ := scanZones_ok small (by omega) h
  exact ⟨greedy.length_pos, few, greedy.zoneBound_zero, fun _ => greedy.foundZone len⟩

namespace WholeScan

variable {d : List Int} {zs : List Zone}

theorem zoneBound_le (h : WholeScan d zs) (k : Nat) : zoneBound zs k ≤ 255 := by
  rcases Nat.lt_or_ge k zs.length with hk | hk
  · exact (h.found k hk).grows.le.trans (h.found k hk).inside
  · exact (zoneBound_of_ge hk).le

theorem zoneBound_le_succ (h : WholeScan d zs) (k : Nat) : zoneBound zs k ≤ zoneBound zs (k + 1) := by
  rcases Nat.lt_or_ge k zs.length with hk | hk
  · exact (h.found k hk).grows.le
  · rw [zoneBound_of_ge hk, zoneBound_of_ge (by omega)]

theorem zoneBound_lt (h : WholeScan d zs) {k : Nat} (hk : k < zs.length) : zoneBound zs k < 255 :=
  (h.found k hk).grows.trans_le (h.found k hk).inside

theorem zoneBase_lt (h : WholeScan d zs) (k : Nat) : zoneBase zs k < 3 := by
  rcases Nat.lt_or_ge k zs.length with hk | hk
  · exact (h.found k hk).least.lt_three
  · have last : zs.length - 1 + 1 = zs.length := Nat.sub_add_cancel h.pos
    rw [zoneBase_filled last hk]
    exact (h.found _ (by omega)).least.lt_three

/-- Two consecutive zones with one base would be one zone: the base would admit the delta that ends the first (R103). -/
theorem zoneBase_ne (h : WholeScan d zs) {j : Nat} (hj : j + 1 < zs.length) : zoneBase zs j ≠ zoneBase zs (j + 1) := by
  intro same
  have left := h.found j (by omega)
  have right := h.found (j + 1) hj
  refine left.stuck hj ⟨zoneBase zs j, fun i v low high hv => ?_⟩
  by_cases before : i < zoneBound zs (j + 1)
  · exact left.least.covers i v low before hv
  · rw [same]
    have start := right.grows
    exact right.least.covers i v (by omega) (by omega) hv

/-- An index field holds the boundary of its zone. -/
theorem toNat_zoneStart (h : WholeScan d zs) (k : Nat) : (zoneStart zs k).toNat = zoneBound zs k := by
  rw [zoneStart_eq_ofNat, toNat_ofNat_index (h.zoneBound_le k)]

theorem toNat_length (h : WholeScan d zs) : (BitVec.ofNat 3 zs.length).toNat = zs.length :=
  Nat.mod_eq_of_lt (show zs.length < 8 by have := h.few; omega)

/-- ZONE answers the zone whose boundaries the position lies between (R106). -/
theorem zone_between (h : WholeScan d zs) {k : Nat} (hk : k < 255) :
    let j := zone k (fillZones zs).x1 (fillZones zs).x2 (fillZones zs).x3
    zoneBound zs j ≤ k ∧ k < zoneBound zs (j + 1) := by
  have fourth : zoneBound zs 4 = 255 := zoneBound_of_ge h.few
  simp only [zone, fillZones, h.toNat_zoneStart]
  split_ifs with after3 after2 after1
  · exact ⟨after3, hk.trans_eq fourth.symm⟩
  · exact ⟨after2, Nat.lt_of_not_le after3⟩
  · exact ⟨after1, Nat.lt_of_not_le after2⟩
  · exact ⟨h.first.le.trans k.zero_le, Nat.lt_of_not_le after1⟩

end WholeScan

/-- Settles O48. -/
theorem zoneMembership : Obligations.ZoneMembership := by
  refine ⟨fun _ _ _ _ => rfl, fun k x1 x2 x3 h12 h23 => ?_⟩
  simp only [zone]
  split_ifs <;> simp <;> omega

/-! ### The control and start words (R110, R111) -/

/-- The width codes and transition indices of a packed control word (R110). -/
theorem packSel_fields (p : ZonePlan) :
    (∀ j : Fin 4, widthCode (packSel p) j = widthOfBase p.base[j]) ∧ indexX1 (packSel p) = p.x1 ∧
      indexX2 (packSel p) = p.x2 ∧ indexX3 (packSel p) = p.x3 := by
  simp (disch := decide) only [Fin.forall_fin_succ, Fin.forall_fin_zero, widthCode, indexX1, indexX2, indexX3, packSel,
    BitVec.extractLsb'_cast, BitVec.extractLsb'_append_eq_of_le, BitVec.extractLsb'_append_eq_of_add_le]
  exact ⟨⟨BitVec.extractLsb'_eq_self, BitVec.extractLsb'_eq_self, BitVec.extractLsb'_eq_self,
    BitVec.extractLsb'_eq_self, trivial⟩, BitVec.extractLsb'_eq_self, BitVec.extractLsb'_eq_self,
    BitVec.extractLsb'_eq_self⟩

/-- The width code at a table position is that of the position's base (R106, R119). -/
theorem packSel_widthAt (p : ZonePlan) (k : Nat) :
    widthCode (packSel p) (zone k (indexX1 (packSel p)) (indexX2 (packSel p)) (indexX3 (packSel p))) =
      widthOfBase (p.baseAt k) := by
  obtain ⟨width, x1, x2, x3⟩ := packSel_fields p
  rw [width, x1, x2, x3, ZonePlan.baseAt]

theorem getElem?_eq_some_getD {smp : List Byte} {k : Nat} (h : k < smp.length) : smp[k]? = some (smp.getD k 0) := by
  rw [List.getD_eq_getElem _ _ h, List.getElem?_eq_getElem h]

/-- Settles O47. -/
theorem controlAndStartWordFields : Obligations.ControlAndStartWordFields := by
  intro p t smp len
  obtain ⟨width, x1, x2, x3⟩ := packSel_fields p
  obtain ⟨first, low, last, high⟩ := (packRegisters p t smp).mslutstart_fields
  refine ⟨width, x1, x2, x3, ?_, ?_, low, high⟩
  · exact first ▸ getElem?_eq_some_getD (by omega)
  · exact last ▸ getElem?_eq_some_getD (by omega)

/-! ### The table (R107 to R109) -/

theorem testBit_bitsToNat (bs : List Bool) (b : Nat) : (bitsToNat bs).testBit b = bs.getD b false := by
  induction bs generalizing b with
  | nil => simp [bitsToNat]
  | cons x bs ih =>
    cases b with
    | zero => cases x <;> simp [bitsToNat, Nat.testBit_zero]
    | succ b =>
      rw [bitsToNat, Nat.testBit_succ, List.getD_cons_succ, ← ih]
      congr 1
      have bit := x.toNat_lt
      omega

/-- Bit `b` of a packed word is its table bit (R109). -/
theorem packWord_getLsbD (t : List Bool) (n : Nat) {b : Nat} (hb : b < 32) :
    (packWord t n).getLsbD b = t.getD (32 * n + b) false := by
  rw [packWord, BitVec.getLsbD_ofNat, testBit_bitsToNat, List.getD_eq_getElem?_getD, List.getElem?_take_of_lt hb,
    List.getElem?_drop, ← List.getD_eq_getElem?_getD, decide_eq_true hb, Bool.true_and]

theorem packTable_getElem (t : List Bool) {n : Nat} (hn : n < 8) : (packTable t)[n] = packWord t n := by
  interval_cases n <;> rfl

/-- A table position reads the table bit packed there (R33, R109). -/
theorem packRegisters_tableBit (p : ZonePlan) (t : List Bool) (smp : List Byte) {k : Nat} (hk : k < 256) :
    (packRegisters p t smp).tableBit k = t.getD k false := by
  have word : (packTable t)[k / 32]? = some (packWord t (k / 32)) := by
    rw [Vector.getElem?_eq_getElem (by omega), packTable_getElem]
  rw [RegisterSet.tableBit, packRegisters, word, Option.getD_some, packWord_getLsbD _ _ (by omega), Nat.div_add_mod]

theorem upperBits_getElem? (p : ZonePlan) (d : List Int) (i k : Nat) :
    (upperBits p d i)[k]? = d[k]?.map fun v : Int => decide (v = p.baseAt (i + k) + 1) := by
  induction d generalizing i k with
  | nil => rfl
  | cons v d ih =>
    cases k with
    | zero => rfl
    | succ k => rw [upperBits, List.getElem?_cons_succ, ih, List.getElem?_cons_succ, Nat.add_assoc, Nat.add_comm 1 k]

/-- The bit of a delta says whether it is the upper one of its base (R107). -/
theorem tableBits_getD {p : ZonePlan} {d : List Int} {k : Nat} {v : Int} (hv : d[k]? = some v) :
    (tableBits p d).getD k false = decide (v = p.baseAt k + 1) := by
  have inside : k < (upperBits p d 0).length := by
    rw [upperBits_length]
    exact (List.getElem?_eq_some_iff.1 hv).1
  rw [tableBits, List.getD_append _ _ _ _ inside, List.getD_eq_getElem?_getD, upperBits_getElem?, hv, Nat.zero_add]
  rfl

/-- The trailing bit is 0 (R108). -/
theorem tableBits_trailing (p : ZonePlan) {d : List Int} {n : Nat} (len : d.length = n) :
    (tableBits p d).getD n false = false := by
  subst len
  rw [tableBits, List.getD_append_right _ _ _ _ (upperBits_length p d 0).le, upperBits_length, Nat.sub_self]
  rfl

/-- Settles O46. -/
theorem tablePacksLeastSignificantBitFirst : Obligations.TablePacksLeastSignificantBitFirst := by
  refine ⟨fun t len n b hb => ?_, fun p d len => ?_⟩
  · have inside : 32 * n.toNat + b < t.length := by have := n.isLt; omega
    rw [packTable_getElem, packWord_getLsbD _ _ hb, List.getD_eq_getElem _ _ inside, List.getElem?_eq_getElem]
  · rw [packTable_getElem _ (by decide), packWord_getLsbD _ _ (by decide)]
    exact tableBits_trailing p len

/-- UPPER_COUNT counts the set bits of the whole table, the trailing one being 0 (R113). -/
theorem toNat_upperCount (p : ZonePlan) {d : List Int} (len : d.length = 255) :
    (upperCount (tableBits p d)).toNat = (tableBits p d).count true := by
  have bits : (upperBits p d 0).length = 255 := (upperBits_length p d 0).trans len
  have bound : (upperBits p d 0).count true ≤ 255 := bits ▸ List.count_le_length
  rw [upperCount, tableBits, List.take_left' bits, toNat_ofNat_index bound, List.count_append]
  rfl

end Sys2Proof.Machine

/-! PROOFS. Verification and the outcomes of ENCODE (spec/41_encode.md R112 to R117): the packed registers reconstruct
the waveform, so the stages after the scan never fail, and what each outcome says of the waveform. -/

namespace Sys2Proof.Machine

/-! ### The registers packed from a whole scan (R107, R119) -/

theorem fillZones_base (zs : List Zone) (j : Fin 4) : (fillZones zs).base[j] = zoneBase zs j := by
  match j with
  | 0 | 1 | 2 | 3 => rfl

theorem toNat_widthOfBase {b : Nat} (h : b < 3) : (widthOfBase b).toNat = b + 1 :=
  Nat.mod_eq_of_lt (show b + 1 < 4 by omega)

namespace WholeScan

variable {d : List Int} {zs : List Zone}

theorem toNat_widthCode (h : WholeScan d zs) (j : Fin 4) :
    (widthCode (packSel (fillZones zs)) j).toNat = zoneBase zs j + 1 := by
  rw [(packSel_fields _).1, fillZones_base, toNat_widthOfBase (h.zoneBase_lt j)]

theorem baseAt_lt (h : WholeScan d zs) (k : Nat) : (fillZones zs).baseAt k < 3 := by
  rw [ZonePlan.baseAt]
  exact (fillZones_base zs _).trans_lt (h.zoneBase_lt _)

/-- The base of a position's zone admits the position's delta (R106, R107). -/
theorem baseAt_admits (h : WholeScan d zs) {k : Nat} {v : Int} (hk : k < 255) (hv : d[k]? = some v) :
    v = (fillZones zs).baseAt k ∨ v = (fillZones zs).baseAt k + 1 := by
  obtain ⟨start, stop⟩ := h.zone_between hk
  have base : (fillZones zs).baseAt k = zoneBase zs _ := fillZones_base zs _
  rw [base]
  refine (h.found _ ?_).least.covers k v start stop hv
  by_contra unused
  rw [zoneBound_of_ge (Nat.le_of_not_lt unused)] at start
  omega

/-- A delta is its position's base plus its table bit (R107). -/
theorem delta_eq (h : WholeScan d zs) {k : Nat} {v : Int} (hk : k < 255) (hv : d[k]? = some v) :
    v = (fillZones zs).baseAt k + (((tableBits (fillZones zs) d).getD k false).toNat : Int) := by
  rw [tableBits_getD hv]
  by_cases upper : v = (fillZones zs).baseAt k + 1
  · simp [upper]
  · simpa [upper] using (h.baseAt_admits hk hv).resolve_right upper

/-- The step that the packed registers encode is the delta (R107, R119). -/
theorem delta_packed (h : WholeScan d zs) (smp : List Byte) {k : Nat} {v : Int} (hk : k < 255)
    (hv : d[k]? = some v) : (packRegisters (fillZones zs) (tableBits (fillZones zs) d) smp).delta k = v := by
  rw [RegisterSet.delta, packRegisters_tableBit _ _ _ (by omega)]
  dsimp only [packRegisters]
  rw [packSel_widthAt, toNat_widthOfBase (h.baseAt_lt k)]
  have sum := h.delta_eq hk hv
  omega

end WholeScan

/-! ### Verification (R112) -/

/-- The stages after the scan read the waveform through its length, its deltas and their scan. -/
structure Scanned (smp : List Byte) (zs : List Zone) : Prop where
  len : smp.length = 256
  small : SmallSteps (deltas smp)
  zones : scanZones (deltas smp) = .ok zs

theorem deltas_length_whole {smp : List Byte} (len : smp.length = 256) : (deltas smp).length = 255 := by
  rw [deltas_length, len]

theorem Scanned.whole {smp : List Byte} {zs : List Zone} (h : Scanned smp zs) : WholeScan (deltas smp) zs :=
  scanZones_wholeScan h.small (deltas_length_whole h.len) h.zones

/-- The packed registers reconstruct the waveform: they start at its first sample and step by its deltas. -/
theorem Scanned.reconAt_packed {smp : List Byte} {zs : List Zone} (h : Scanned smp zs) {k : Nat} (hk : k < 256) :
    reconAt (packedRegisters smp zs) k = ((smp.getD k 0).toNat : Int) := by
  induction k with
  | zero => exact reconAt_zero _
  | succ k ih =>
    have step : (packedRegisters smp zs).delta k = _ :=
      h.whole.delta_packed smp (by omega) (deltas_getElem?_getD h.len (by omega))
    rw [reconAt_succ _ _ (by omega), ih (by omega), step]
    omega

theorem Scanned.recon_packed {smp : List Byte} {zs : List Zone} (h : Scanned smp zs) :
    recon (packedRegisters smp zs) = smp.map fun v => (v.toNat : Int) := by
  have len := recon_length (packedRegisters smp zs)
  refine List.ext_getElem (by rw [len, List.length_map, h.len]) fun k hk hk' => ?_
  have agrees := h.reconAt_packed (len ▸ hk)
  rw [List.length_map] at hk'
  rw [List.getElem_map]
  rwa [reconAt, List.getD_eq_getElem _ _ hk, List.getD_eq_getElem _ _ hk'] at agrees

theorem firstMismatch_map (smp : List Byte) (k : Nat) :
    firstMismatch (smp.map fun v => (v.toNat : Int)) smp k = none := by
  induction smp generalizing k with
  | nil => rfl
  | cons v smp ih => rw [List.map_cons, firstMismatch, if_pos rfl, ih]

theorem Scanned.verified {smp : List Byte} {zs : List Zone} (h : Scanned smp zs) :
    firstMismatch (recon (packedRegisters smp zs)) smp 0 = none := by
  rw [h.recon_packed, firstMismatch_map]

/-! ### The outcomes of a whole waveform -/

/-- What ENCODE answers on a whole waveform: STEP, PATTERN or the packed result, and never INTERNAL. -/
inductive Encoded (smp : List Byte) : EncodeOutcome → Prop where
  | step {i : Nat} (bad : stepFailure (deltas smp) 0 = some i) : Encoded smp (failAt .step i (maxSample smp))
  | pattern {i : Nat} (small : SmallSteps (deltas smp)) (fifth : scanZones (deltas smp) = .error i) :
      Encoded smp (failAt .pattern i (maxSample smp))
  | packed {zs : List Zone} (scanned : Scanned smp zs) : Encoded smp (.success (packedResult smp zs (maxSample smp)))

theorem encodeWaveform_encoded {smp : List Byte} (len : smp.length = 256) :
    Encoded smp (encodeWaveform smp 256 false) := by
  generalize ho : encodeWaveform smp 256 false = o
  have outcome := ho ▸ encodeWaveform_quantized smp
  cases outcome with
  | step bad => exact .step bad
  | pattern small fifth => exact .pattern ((stepFailure_eq_none_iff _).1 small) fifth
  | internal small zones mismatch =>
    have scanned : Scanned smp _ := ⟨len, (stepFailure_eq_none_iff _).1 small, zones⟩
    rw [scanned.verified] at mismatch
    cases mismatch
  | packed small zones => exact .packed ⟨len, (stepFailure_eq_none_iff _).1 small, zones⟩

theorem encodeWaveform_success {smp : List Byte} {o : EncodeSuccess} (len : smp.length = 256)
    (h : encodeWaveform smp 256 false = .success o) :
    ∃ zs, Scanned smp zs ∧ o = packedResult smp zs (maxSample smp) := by
  have outcome := h ▸ encodeWaveform_encoded len
  cases outcome with
  | packed scanned => exact ⟨_, scanned, rfl⟩

/-- A waveform whose deltas the scan cuts into zones encodes. -/
theorem Scanned.encodes {smp : List Byte} {zs : List Zone} (h : Scanned smp zs) :
    encodeWaveform smp 256 false = .success (packedResult smp zs (maxSample smp)) := by
  generalize ho : encodeWaveform smp 256 false = o
  have outcome := ho ▸ encodeWaveform_encoded h.len
  cases outcome with
  | step bad => rw [(stepFailure_eq_none_iff _).2 h.small] at bad; cases bad
  | pattern _ fifth => rw [h.zones] at fifth; cases fifth
  | packed scanned => obtain rfl := Except.ok.inj (h.zones.symm.trans scanned.zones); rfl

/-- Settles O44: the registers of every scan reconstruct the waveform, so no mismatch is left for INTERNAL. -/
theorem internalErrorIsUnreachable : Obligations.InternalErrorIsUnreachable := by
  intro smp len
  refine ⟨fun zs small zones k hk => ?recon, fun cnt rng o h => ?internal, fun o h k hk => ?success⟩
  case recon =>
    have scanned : Scanned smp zs := ⟨len, (stepFailure_eq_none_iff _).1 small, zones⟩
    exact scanned.reconAt_packed hk
  case internal =>
    by_cases bad : shapeBad cnt rng = true
    · rw [encodeWaveform_of_shapeBad bad] at h
      cases h
      nofun
    · rw [encodeWaveform_of_shapeGood bad, ← encodeWaveform_loaded] at h
      have outcome := h ▸ encodeWaveform_encoded len
      cases outcome with
      | step | pattern => nofun
  case success =>
    obtain ⟨zs, scanned, rfl⟩ := encodeWaveform_success len h
    exact scanned.reconAt_packed hk

/-- Settles O45. -/
theorem tableBitsCarryTheDeltas : Obligations.TableBitsCarryTheDeltas := by
  intro smp o len h
  obtain ⟨zs, scanned, rfl⟩ := encodeWaveform_success len h
  constructor
  · intro i hi sel w
    have base := scanned.whole.baseAt_lt i
    have width : w = (fillZones zs).baseAt i + 1 :=
      (congrArg BitVec.toNat (packSel_widthAt (fillZones zs) i)).trans (toNat_widthOfBase base)
    have bit : (packedResult smp zs (maxSample smp)).regs.tableBit i = _ := packRegisters_tableBit _ _ _ (by omega)
    have sum := scanned.whole.delta_eq hi (deltas_getElem?_getD len hi)
    rw [width, bit]
    exact ⟨by omega, by omega, by omega⟩
  · exact (packRegisters_tableBit _ _ _ (by decide)).trans (tableBits_trailing _ (deltas_length_whole len))

/-- Settles O43. -/
theorem patternErrorNamesTheFifthZone : Obligations.PatternErrorNamesTheFifthZone := by
  intro smp o len h code
  have outcome := h ▸ encodeWaveform_encoded len
  have count := deltas_length_whole len
  cases outcome with
  | step => cases code
  | pattern small fifth =>
    obtain ⟨inside, four, five⟩ := scanZones_error small (by omega) fifth
    have index := toNat_ofNat_index (inside.le.trans count.le)
    refine ⟨?_, ?_, rfl, rfl⟩ <;> rw [fourRunsCover_take_iff] <;> simpa only [index]

/-! ### The all-equal waveform (R117) -/

theorem deltas_replicate (v : Byte) (n : Nat) : deltas (List.replicate (n + 1) v) = List.replicate n 0 := by
  induction n with
  | zero => rfl
  | succ n ih => rw [List.replicate_succ, List.replicate_succ, deltas, ← List.replicate_succ, ih, Int.sub_self]; rfl

/-- A zone whose lowest base is 0 takes in every delta 0. -/
theorem zoneScan_zeros (n i : Nat) : zoneScan (List.replicate n 0) i [] 0 0b001#3 = .ok [⟨0, 0⟩] := by
  induction n generalizing i with
  | zero => rfl
  | succ n ih => rw [List.replicate_succ, zoneScan]; exact ih (i + 1)

theorem scanZones_zeros (n : Nat) : scanZones (List.replicate (n + 1) 0) = .ok [⟨0, 0⟩] := by
  rw [scanZones, List.replicate_succ, zoneScan]
  exact zoneScan_zeros n 1

theorem upperBits_zeros {p : ZonePlan} (base : ∀ k, p.baseAt k = 0) (n i : Nat) :
    upperBits p (List.replicate n 0) i = List.replicate n false := by
  induction n generalizing i with
  | zero => rfl
  | succ n ih => rw [List.replicate_succ, upperBits, base, ih, List.replicate_succ]; rfl

theorem zoneBase_flat (j : Fin 4) : zoneBase [⟨0, 0⟩] j = 0 := by
  match j with
  | 0 | 1 | 2 | 3 => rfl

theorem tableBits_flat : tableBits (fillZones [⟨0, 0⟩]) (List.replicate 255 0) = List.replicate 256 false := by
  have base (k : Nat) : (fillZones [⟨0, 0⟩]).baseAt k = 0 := (fillZones_base _ _).trans (zoneBase_flat _)
  rw [tableBits, upperBits_zeros base, List.replicate_succ' (n := 255)]

theorem packWord_zeros (m n : Nat) : packWord (List.replicate m false) n = 0 := by
  refine BitVec.eq_of_getLsbD_eq fun b hb => ?_
  rw [packWord_getLsbD _ _ hb, List.getD_eq_getElem?_getD, List.getElem?_replicate]
  split <;> simp

theorem upperCount_zeros (n : Nat) : upperCount (List.replicate n false) = 0 := by
  rw [upperCount, List.take_replicate, List.count_replicate]
  rfl

/-- Settles O54: the deltas are 255 zeros, which the scan takes into one zone of base 0. -/
theorem allEqualWaveformEncodes : Obligations.AllEqualWaveformEncodes := by
  intro v
  have flat : deltas (List.replicate 256 v) = List.replicate 255 0 := deltas_replicate v 255
  have len : (List.replicate 256 v).length = 256 := List.length_replicate
  have scanned : Scanned (List.replicate 256 v) [⟨0, 0⟩] := by
    refine ⟨len, ?_, ?_⟩ <;> rw [flat]
    · intro d hd
      rw [List.eq_of_mem_replicate hd]
      decide
    · exact scanZones_zeros 254
  have sel : packSel (fillZones [⟨0, 0⟩]) = 0xFFFFFF55 := by decide
  have sample {k : Nat} (hk : k < 256) : (List.replicate 256 v).getD k 0 = v :=
    (List.getD_eq_getElem _ _ (hk.trans_eq len.symm)).trans (List.getElem_replicate _)
  have top : maxSample (List.replicate 256 v) = v :=
    List.eq_of_mem_replicate (maxSample_mem (List.ne_nil_of_length_pos (by omega)))
  have result : encodeWaveform (List.replicate 256 v) 256 false = _ := scanned.encodes
  rw [packedResult, top] at result
  refine ⟨_, result, fun n => ?_, sel, sample (k := 0) (by decide), sample (k := 255) (by decide), ?_, rfl, rfl⟩
  · have word : (packedRegisters (List.replicate 256 v) [⟨0, 0⟩]).mslutWord n = packWord _ n.toNat :=
      packTable_getElem _ n.isLt
    rw [flat, tableBits_flat, packWord_zeros] at word
    exact word
  · rw [flat, tableBits_flat, upperCount_zeros]

end Sys2Proof.Machine

/-! PROOFS. What a successful encode commits (spec/41_encode.md R102 to R105, R116), and the invariant of the result
state, which every step keeps (R105, R114, R116, spec/60_exceptions.md R128). -/

namespace Sys2Proof.Machine

/-! ### The committed zones (R102 to R105) -/

namespace WholeScan

variable {d : List Int} {zs : List Zone}

/-- The boundaries of the four zones, as the control word holds them. -/
theorem bounds (h : WholeScan d zs) : ∀ j : Fin 5,
    (![0, (indexX1 (packSel (fillZones zs))).toNat, (indexX2 (packSel (fillZones zs))).toNat,
      (indexX3 (packSel (fillZones zs))).toNat, 255] : Fin 5 → Nat) j = zoneBound zs j := by
  obtain ⟨-, x1, x2, x3⟩ := packSel_fields (fillZones zs)
  rw [x1, x2, x3]
  intro j
  match j with
  | 0 => exact h.first.symm
  | 1 => exact h.toNat_zoneStart 1
  | 2 => exact h.toNat_zoneStart 2
  | 3 => exact h.toNat_zoneStart 3
  | 4 => exact (zoneBound_of_ge h.few).symm

/-- The zones that were not needed repeat the last found zone's width code (R105). -/
theorem widthCode_filled (h : WholeScan d zs) {j k : Fin 4} (last : j.val + 1 = zs.length)
    (unused : zs.length ≤ k.val) :
    widthCode (packSel (fillZones zs)) k = widthCode (packSel (fillZones zs)) j := by
  apply BitVec.eq_of_toNat_eq
  rw [h.toNat_widthCode, h.toNat_widthCode, zoneBase_filled last unused]

end WholeScan

/-- Settles O42: the scan ends exactly where four runs suffice, and the control word holds its zones. -/
theorem encodeSucceedsExactlyWhenFourZonesSuffice : Obligations.EncodeSucceedsExactlyWhenFourZonesSuffice := by
  intro smp len small
  have nonempty : 0 < (deltas smp).length := by rw [deltas_length_whole len]; decide
  rw [fourRunsCover_iff_scanZones_ok small nonempty]
  refine ⟨⟨fun ⟨o, h⟩ => ?sound, fun ⟨zs, zones⟩ => ⟨_, Scanned.encodes ⟨len, small, zones⟩⟩⟩, ?zones⟩
  case sound =>
    obtain ⟨zs, scanned, -⟩ := encodeWaveform_success len h
    exact ⟨zs, scanned.zones⟩
  case zones =>
    intro o h sel start nz
    obtain ⟨zs, scanned, rfl⟩ := encodeWaveform_success len h
    have whole := scanned.whole
    have count : nz = zs.length := whole.toNat_length
    have bound : ∀ j : Fin 5, start j = zoneBound zs j := whole.bounds
    have width : ∀ j : Fin 4, (widthCode sel j).toNat = zoneBase zs j + 1 := whole.toNat_widthCode
    simp only [count, bound, width, Fin.val_castSucc, Fin.val_succ, Nat.add_sub_cancel]
    refine ⟨whole.pos, whole.few, fun j hj => ?_, fun j more b cover => ?_, fun j k last unused => ?_⟩
    · obtain ⟨grows, inside, least, -⟩ := whole.found j hj
      exact ⟨grows, inside, Nat.succ_pos _, least.covers, fun b cover => Nat.succ_le_succ (least.least b cover)⟩
    · exact (whole.found j (Nat.lt_of_succ_lt more)).stuck more cover.oneBase
    · exact ⟨zoneBound_of_ge unused, whole.widthCode_filled last unused⟩

/-! ### The shape of a successful result (R116) -/

/-- The table bits of the packed registers are the packed ones, in order (R109). -/
theorem map_tableBit_packRegisters (p : ZonePlan) {t : List Bool} (len : t.length = 256) (smp : List Byte) :
    (List.range 256).map (packRegisters p t smp).tableBit = t := by
  refine List.ext_getElem (by rw [List.length_map, List.length_range, len]) fun k hk hk' => ?_
  rw [List.getElem_map, List.getElem_range, packRegisters_tableBit _ _ _ (len ▸ hk'), List.getD_eq_getElem _ _ hk']

theorem count_true_map {α : Type} (f : α → Bool) (l : List α) : (l.map f).count true = l.countP f := by
  rw [List.count_eq_countP, List.countP_map]
  exact List.countP_congr fun _ _ => by simp

/-- The samples of a waveform without a bad delta do not decrease. -/
theorem Scanned.first_le {smp : List Byte} {zs : List Zone} (h : Scanned smp zs) {k : Nat} (hk : k < 256) :
    (smp.getD 0 0).toNat ≤ (smp.getD k 0).toNat := by
  induction k with
  | zero => exact le_rfl
  | succ k ih =>
    have step := h.small _ (List.mem_of_getElem? (deltas_getElem?_getD h.len (show k < 255 by omega)))
    have before := ih (by omega)
    omega

theorem Scanned.validResult {smp : List Byte} {zs : List Zone} (h : Scanned smp zs) (maxs : Byte) :
    ValidResult (packedRegisters smp zs)
      ⟨upperCount (tableBits (fillZones zs) (deltas smp)), BitVec.ofNat 3 zs.length, maxs⟩ := by
  have whole := h.whole
  have count := deltas_length_whole h.len
  have width : ∀ j : Fin 4, (widthCode (packedRegisters smp zs).mslutsel j).toNat = zoneBase zs j + 1 :=
    whole.toNat_widthCode
  obtain ⟨-, x1, x2, x3⟩ := packSel_fields (fillZones zs)
  have bound1 : (indexX1 (packedRegisters smp zs).mslutsel).toNat = zoneBound zs 1 := whole.bounds 1
  have bound2 : (indexX2 (packedRegisters smp zs).mslutsel).toNat = zoneBound zs 2 := whole.bounds 2
  have bound3 : (indexX3 (packedRegisters smp zs).mslutsel).toNat = zoneBound zs 3 := whole.bounds 3
  have unused {x : Byte} {k : Nat} (bound : x.toNat = zoneBound zs k) (few : zs.length ≤ k) : x = 255 :=
    BitVec.eq_of_toNat_eq (bound.trans (zoneBound_of_ge few))
  constructor
  case zones => rw [whole.toNat_length]; exact ⟨whole.pos, whole.few⟩
  case width =>
    intro j zero
    have code := width j
    rw [zero] at code
    cases code
  case order =>
    rw [bound1, bound2, bound3]
    have first := (whole.found 0 whole.pos).grows
    exact ⟨(Nat.zero_le _).trans_lt first, whole.zoneBound_le_succ 1, whole.zoneBound_le_succ 2⟩
  case unused => rw [whole.toNat_length]; exact ⟨unused bound1, unused bound2, unused bound3⟩
  case found =>
    rw [whole.toNat_length, bound1, bound2, bound3]
    exact ⟨whole.zoneBound_lt, fun n => ⟨(whole.found 1 (by omega)).grows, whole.zoneBound_lt n⟩,
      fun n => ⟨(whole.found 2 (by omega)).grows, whole.zoneBound_lt n⟩⟩
  case filled => rw [whole.toNat_length]; exact fun j k => whole.widthCode_filled
  case distinct =>
    rw [whole.toNat_length]
    intro j k next found same
    have bases : zoneBase zs j = zoneBase zs k := Nat.succ.inj ((width j).symm.trans (same ▸ width k))
    exact whole.zoneBase_ne (next ▸ found) (next ▸ bases)
  case trailing => exact (packRegisters_tableBit _ _ _ (by decide)).trans (tableBits_trailing _ count)
  case last => exact h.reconAt_packed (by decide)
  case upper =>
    have bits : (tableBits (fillZones zs) (deltas smp)).length = 256 := by rw [tableBits_length, count]
    rw [toNat_upperCount _ count, ← count_true_map, packedRegisters, map_tableBit_packRegisters _ bits]
  case ends => exact h.first_le (k := 255) (by decide)

/-- A success is a whole result, and carries the warning for its maximum (R98, R116). -/
theorem encodeWaveform_validResult {smp : List Byte} {o : EncodeSuccess} (len : smp.length = 256)
    (h : encodeWaveform smp 256 false = .success o) :
    ValidResult o.regs ⟨o.upper, o.nz, o.maxs⟩ ∧ o.warn = amplitudeWarning o.maxs := by
  obtain ⟨zs, scanned, rfl⟩ := encodeWaveform_success len h
  exact ⟨scanned.validResult _, rfl⟩

/-! ### The invariant of the result state -/

theorem encodeWaveform_success_loaded {smp : List Byte} {cnt : BitVec 9} {rng : Bool} {o : EncodeSuccess}
    (h : encodeWaveform smp cnt rng = .success o) : encodeWaveform smp 256 false = .success o := by
  by_cases bad : shapeBad cnt rng = true
  · rw [encodeWaveform_of_shapeBad bad] at h
    cases h
  · rwa [encodeWaveform_of_shapeGood bad, ← encodeWaveform_loaded] at h

/-- A fault carries the warning for its maximum, and shape causes exactly if it is SHAPE (R98, R126). -/
theorem encodeWaveform_failure {smp : List Byte} {cnt : BitVec 9} {rng : Bool} {o : EncodeFailure}
    (h : encodeWaveform smp cnt rng = .error o) :
    o.warn = amplitudeWarning o.maxs ∧ (o.code = .shape ↔ o.countBad = true ∨ o.rangeBad = true) := by
  by_cases bad : shapeBad cnt rng = true
  · rw [encodeWaveform_of_shapeBad bad] at h
    cases h
    exact ⟨rfl, iff_of_true rfl (by simpa using (shapeBad_iff cnt rng).1 bad)⟩
  · rw [encodeWaveform_of_shapeGood bad] at h
    have outcome := h ▸ quantizeAndPack_quantized smp (maxSample smp)
    cases outcome with
    | step | pattern | internal => exact ⟨rfl, iff_of_false nofun (by simp)⟩

namespace State.ResultInv

variable {s : State}

theorem respond (h : s.ResultInv) (r : Response) : (s.respond r).ResultInv := { h with }

theorem withEvents (h : s.ResultInv) (es : List Event) : (s.withEvents es).ResultInv := { h with }

/-- No word writes a result register, and START clears the outcome flags (R72). -/
theorem wordEffect (h : s.ResultInv) {tw : TransactionWord} {u : State} (effect : WordEffect s tw u) : u.ResultInv := by
  cases effect with
  | ignored | nop | clear | sample | window | inert => exact { h with }
  | start => exact { h with valid := by simp, error := by simp, warning := by simp, shape := by simp }

/-- A completion commits a whole result or empties the registers (R114, R128), so it needs nothing of the state
before. -/
theorem complete (s : State) : s.complete.ResultInv := by
  rcases s.complete_cases with ⟨o, ho, hc⟩ | ⟨o, ho, hc⟩ <;> rw [hc]
  · obtain ⟨result, warning⟩ := encodeWaveform_validResult s.waveform_length (encodeWaveform_success_loaded ho)
    exact ⟨.inr result, fun _ => ⟨result, rfl⟩, by simp, fun _ => warning, by simp⟩
  · obtain ⟨warning, shape⟩ := encodeWaveform_failure ho
    have empty : EmptyResult .zero ⟨0, 0, o.maxs⟩ := ⟨rfl, rfl, rfl⟩
    exact ⟨.inl empty, by simp, fun _ => empty, fun _ => warning, fun _ => shape⟩

theorem engineTurn (h : s.ResultInv) : s.engineTurn.ResultInv := by
  rcases s.engineTurn_cases with ⟨-, ht⟩ | ⟨-, ht⟩ <;> rw [ht]
  · exact complete s
  · exact h

/-- Reset empties the registers and clears the outcome flags (R145). -/
theorem assertReset : s.assertReset.ResultInv where
  whole := .inl ⟨rfl, rfl, rfl⟩
  valid := by simp
  error := by simp
  warning := by simp
  shape := by simp

end State.ResultInv

/-- Settles O58: each kind of event keeps the invariant. -/
theorem everyStepKeepsTheResultInvariant : Obligations.EveryStepKeepsTheResultInvariant := by
  intro s t inv h
  cases step_effect h with
  | idle => exact inv.engineTurn
  | engine => exact (inv.withEvents _).engineTurn
  | reset => exact .assertReset
  | transaction r _ effect => exact ((inv.withEvents _).wordEffect effect).respond r

end Sys2Proof.Machine

/-! PROOFS. The readback windows (spec/42_readback.md): what RECON decodes from the registers and the bounds it keeps,
the two windows, and the round trip through them after a success. -/

namespace Sys2Proof.Machine

/-! ### RECON (R119) -/

/-- Table bit `k` stands in table word `k / 32` (R33). -/
theorem RegisterSet.tableBit_eq_mslutWord (r : RegisterSet) {k : Nat} (hk : k < 256) :
    r.tableBit k = (r.mslutWord (BitVec.ofNat 3 (k / 32))).getLsbD (k % 32) := by
  have index : (BitVec.ofNat 3 (k / 32)).toNat = k / 32 := Nat.mod_eq_of_lt (by omega)
  simp only [RegisterSet.tableBit, RegisterSet.mslutWord, index, Vector.getElem?_eq_getElem (show k / 32 < 8 by omega),
    Option.getD_some]

/-- The step that the registers encode, for any width codes and transition indices: each zone's step lies between the
base -1 without the table bit and the base 2 with it. -/
theorem RegisterSet.delta_bounds (r : RegisterSet) (k : Nat) : -1 ≤ r.delta k ∧ r.delta k ≤ 3 := by
  have width := (widthCode r.mslutsel
    (zone k (indexX1 r.mslutsel) (indexX2 r.mslutsel) (indexX3 r.mslutsel))).isLt
  have bit := (r.tableBit k).toNat_lt
  rw [RegisterSet.delta]
  omega

/-- After `k` steps RECON is at most `k` below and at most `3 k` above its start. -/
theorem reconAt_bounds (r : RegisterSet) {k : Nat} (hk : k < 256) :
    (r.startSin.toNat : Int) - k ≤ reconAt r k ∧ reconAt r k ≤ r.startSin.toNat + 3 * k := by
  induction k with
  | zero => rw [reconAt_zero]; omega
  | succ k ih =>
    have step := r.delta_bounds k
    have before := ih (by omega)
    rw [reconAt_succ _ _ (by omega)]
    omega

/-- Settles O49: START_SIN lies in [0, 255], and 255 steps lead from it by at most -255 and 765. -/
theorem reconstructionIsBounded : Obligations.ReconstructionIsBounded := by
  intro r k hk
  have start := r.startSin.isLt
  have bounds := reconAt_bounds r hk
  omega

/-! ### The RECON_DATA window (R90, R120) -/

theorem exec_rdReconData (s : State) :
    exec .rdReconData s = .next (s.respond (okayRead (u32 (reconAt s.regs s.winIdx.toNat)))) := rfl

theorem val_zone (k : Nat) (x1 x2 x3 : Byte) :
    (zone k x1 x2 x3).val = if x3.toNat ≤ k then 3 else if x2.toNat ≤ k then 2 else if x1.toNat ≤ k then 1 else 0 := by
  rw [zone]
  split_ifs <;> rfl

/-- Settles O19: the sequence is RECON, with the zone and the table bit of each step read off the words. -/
theorem reconstructionWindowDecodesTheRegisters : Obligations.ReconstructionWindowDecodesTheRegisters := by
  intro s v
  refine ⟨decode_transactionWord_read .reconData v, reconAt s.regs, reconAt_zero _, fun k hk => ?_, exec_rdReconData s⟩
  dsimp only
  rw [reconAt_succ _ _ hk, RegisterSet.delta, widthCode, val_zone, RegisterSet.tableBit_eq_mslutWord _ (by omega),
    ← add_assoc]
  rfl

/-- A RegisterSet of zeros steps by -1: its width codes are %00 and its table bits 0 (R123). -/
theorem RegisterSet.delta_empty {r : RegisterSet} (table : ∀ n, r.mslutWord n = 0) (sel : r.mslutsel = 0) {k : Nat}
    (hk : k < 256) : r.delta k = -1 := by
  have width : ∀ j, widthCode 0 j = 0 := by decide
  rw [RegisterSet.delta, RegisterSet.tableBit_eq_mslutWord _ hk, table, sel, width]
  simp

theorem reconAt_empty {r : RegisterSet} (table : ∀ n, r.mslutWord n = 0) (sel : r.mslutsel = 0)
    (start : r.mslutstart = 0) {k : Nat} (hk : k < 256) : reconAt r k = -(k : Int) := by
  induction k with
  | zero =>
    obtain ⟨startSin, -⟩ := r.mslutstart_fields
    rw [reconAt_zero, ← startSin, start]
    rfl
  | succ k ih =>
    rw [reconAt_succ _ _ (by omega), ih (by omega), RegisterSet.delta_empty table sel (by omega)]
    omega

/-- Settles O50: the window index is one of the 256 at which RECON of zeros is minus the index. -/
theorem emptyRegisterSetReadsMinusTheIndex : Obligations.EmptyRegisterSetReadsMinusTheIndex := by
  intro s table sel start
  rw [exec_rdReconData, reconAt_empty table sel start s.winIdx.isLt]
  rfl

/-! ### The ORIG_DATA window (R92, R121) -/

theorem exec_rdOrigData (s : State) :
    exec .rdOrigData s = .next (s.respond (okayRead (zext32 (s.slot s.winIdx.toNat)))) := rfl

theorem State.slot_of_written {s : State} {k : Nat} {b : Byte} (h : Memory.read s.smp k = some b) : s.slot k = b := by
  rw [State.slot, h, Option.getD_some]

theorem State.slot_of_unwritten {s : State} {k : Nat} (h : Memory.read s.smp k = none) :
    s.slot k = Config.resetSample s.resets k := by
  rw [State.slot, h, Option.getD_none]

/-- Settles O20. -/
theorem originalWindowReadsTheSlot : Obligations.OriginalWindowReadsTheSlot :=
  fun s v => ⟨decode_transactionWord_read .origData v, exec_rdOrigData s, fun _ => State.slot_of_written,
    State.slot_of_unwritten⟩

/-! ### The round trip (R122) -/

/-- The two windows widen a sample alike: as an integer and as a byte (R9). -/
theorem u32_toNat (v : Byte) : u32 (v.toNat : Int) = zext32 v := by
  rw [u32, BitVec.ofInt_natCast, zext32, BitVec.ofNat_toNat]

/-- RECON of the registers is the sample buffer, at every index. -/
def State.ReconIsWaveform (s : State) : Prop := ∀ k, k < 256 → reconAt s.regs k = ((s.slot k).toNat : Int)

namespace State.ReconIsWaveform

variable {s : State}

/-- A completion that ends in VALID has committed the registers of a success, which reconstruct the buffer (R112). -/
theorem complete (valid : s.complete.valid = true) : s.complete.ReconIsWaveform := by
  rcases s.complete_cases with ⟨o, ho, h⟩ | ⟨o, -, h⟩ <;> rw [h] at valid ⊢
  · intro k hk
    obtain ⟨-, -, verified⟩ := internalErrorIsUnreachable s.waveform s.waveform_length
    have inside : k < s.waveform.length := s.waveform_length.symm ▸ hk
    have reads := verified o (encodeWaveform_success_loaded ho) k hk
    rwa [List.getD_eq_getElem _ _ inside, State.waveform_getElem] at reads
  · exact absurd valid (by simp)

theorem respond (h : s.ReconIsWaveform) (r : Response) : (s.respond r).ReconIsWaveform := h

theorem withEvents (h : s.ReconIsWaveform) (es : List Event) : (s.withEvents es).ReconIsWaveform := h

theorem selectWindow (h : s.ReconIsWaveform) (k : Byte) : (s.selectWindow k).ReconIsWaveform := h

/-- No word writes the registers, and of the effects of a word only a sample write changes the buffer. -/
theorem wordEffect {tw : TransactionWord} {u : State} (h : s.ReconIsWaveform)
    (noSample : ∀ v, decode tw ≠ .wrSampleData v) (effect : WordEffect s tw u) : u.ReconIsWaveform := by
  cases effect with
  | sample _ we addr => exact absurd (decode_write (r := .sampleData) we addr.symm) (noSample _)
  | ignored | nop | start | clear | window | inert => exact h

theorem step {tw : TransactionWord} {t : State} {es : List Event} (noSample : ∀ v, decode tw ≠ .wrSampleData v)
    (ev : s.events = .transaction tw :: es) (h : s.ReconIsWaveform) (hstep : step s = .next t) :
    t.ReconIsWaveform := by
  cases step_effect hstep with
  | idle ev' | engine ev' | reset ev' => simp [ev'] at ev
  | transaction r ev' effect =>
    obtain ⟨⟨⟩, -⟩ := List.cons.inj (ev'.symm.trans ev)
    exact ((h.withEvents _).wordEffect noSample effect).respond r

/-- The run of transactions that write no sample keeps it. -/
theorem run {tws : List TransactionWord} (noSample : ∀ tw ∈ tws, ∀ v, decode tw ≠ .wrSampleData v)
    (ev : s.events = tws.map .transaction) (h : s.ReconIsWaveform) :
    ∃ t, Host.Core.run core tws.length s = .next t ∧ t.ReconIsWaveform := by
  have keeps : ∀ e ∈ tws.map Event.transaction, ∀ (s t : State) (rest : List Event), s.events = e :: rest →
      s.ReconIsWaveform → Machine.step s = .next t → t.ReconIsWaveform :=
    List.forall_mem_map.2 fun tw mem _ _ _ => step (noSample tw mem)
  obtain ⟨t, ht, -, run⟩ := run_keeps (rest := []) keeps (by rw [ev, List.append_nil]) h
  rw [List.length_map] at run
  exact ⟨t, run 0, ht⟩

/-- There the two windows return the same word, at every window index. -/
theorem exec_rdReconData (h : s.ReconIsWaveform) :
    exec .rdReconData s = .next (s.respond (okayRead (zext32 (s.slot s.winIdx.toNat)))) := by
  rw [Machine.exec_rdReconData, h _ s.winIdx.isLt, u32_toNat]

end State.ReconIsWaveform

/-- Settles O51: the completion makes the registers reconstruct the buffer, and neither the transactions nor the choice
of the index change that. -/
theorem roundTripThroughTheWindows : Obligations.RoundTripThroughTheWindows := by
  intro s tws w valid noSample ev
  have ahead : s.complete.events = tws.map .transaction := by
    obtain ⟨-, -, -, -, -, -, events, -⟩ := s.complete_frame
    exact events.trans ev
  obtain ⟨t, run, agrees⟩ := (State.ReconIsWaveform.complete valid).run noSample ahead
  have agrees := (agrees.selectWindow (windowIndex w)).respond okayWrite
  exact ⟨t, _, _, run, rfl, agrees.exec_rdReconData, exec_rdOrigData _⟩

end Sys2Proof.Machine

/-! PROOFS. Errors (spec/60_exceptions.md): a bus error is an answer and nothing more (R132, R133), and an encode that
is started again on the buffer it left reports the same outcome (R136). -/

namespace Sys2Proof.Machine

/-! ### Bus errors (R132, R133) -/

theorem exec_buserr (we : Bool) (addr : Byte) (s : State) :
    exec (.buserr we addr) s = .next (s.respond busErrorResponse) := rfl

/-- Settles O24: every word of an offset outside the map is the row BUSERR, and that row never looks at BUSY. -/
theorem busErrorChangesNothing : Obligations.BusErrorChangesNothing := by
  refine fun s we addr => ⟨exec_buserr we addr s, fun w unmapped => ?_⟩
  rw [decode_transactionWord_unmapped we w ((registerAt_eq_none_iff addr).2 unmapped)]
  exact exec_buserr we addr s

/-! ### A START on the unchanged buffer (R136) -/

/-- The step of the engine while an encode is pending (R95). -/
theorem step_complete {s : State} {es : List Event} (busy : s.busy = true) (ev : s.events = .engine :: es) :
    step s = .next (s.withEvents es).complete :=
  (stepCompletesAPendingEncode s es (.inl ev)).1 busy

/-- The state in which the encode that `s` has pending is completed and, by a START, pending again (R72), with the
events `es` ahead. -/
def State.restart (s : State) (es : List Event) : State := (s.complete.withEvents es).startEncode.respond okayWrite

/-- The completed block is idle, so it accepts the START (R72); 1 is the write data that the pseudo-instruction has
(R66). -/
theorem step_restart {s : State} {es : List Event} (ev : s.events = .transaction 0x10000000001 :: es) :
    step s.complete = .next (s.restart es) := by
  obtain ⟨-, -, -, -, -, -, events, -⟩ := s.complete_frame
  rw [step_transaction (events.trans ev), show decode 0x10000000001 = .wrCtrlStart 1 by decide]
  exact gatedWrite_of_idle (s := s.complete.withEvents es) s.complete_busy _

/-- The second encode is pending on the input of the first: a completion keeps the input state (R135), and so does
START (R72). -/
theorem State.restart_pendingAsIn (s : State) (es : List Event) : PendingAsIn s (s.restart es) := by
  obtain ⟨smp, scount, rangeFlag, -, -, -, -, resets⟩ := s.complete_frame
  exact ⟨rfl, smp, resets, scount, rangeFlag⟩

theorem step_engine_restart (s : State) : step (s.restart [.engine]) = .next (s.restart []).complete :=
  step_complete rfl rfl

theorem State.complete_restart_sameResults (s : State) (es : List Event) :
    SameResults (s.restart es).complete s.complete :=
  State.complete_sameResults (s.restart_pendingAsIn es).encodeOutcome

/-- Of the rest of STATUS, which is the count, RANGE_FLAG and WR_IGNORED (R20), neither START nor a completion changes
anything. -/
theorem State.complete_restart_statusWord (s : State) (es : List Event) :
    s.complete.statusWord = (s.restart es).complete.statusWord := by
  have same := s.complete_restart_sameResults es
  have idle := (s.restart es).complete_busy
  obtain ⟨-, (scount : _ = s.complete.scount), (rangeFlag : _ = s.complete.rangeFlag),
    (wrIgnored : _ = s.complete.wrIgnored), -⟩ := (s.restart es).complete_frame
  simp only [State.statusWord, same.idle, same.valid, same.error, same.errcode, same.warnAmpl, idle, scount, rangeFlag,
    wrIgnored]

/-- Settles O53: the three steps are the completion, the START and the completion of the restarted encode. -/
theorem secondStartRepeatsTheOutcome : Obligations.SecondStartRepeatsTheOutcome := by
  intro s busy ev
  have first := step_complete busy ev
  have start := step_restart (s := s.withEvents [.transaction 0x10000000001, .engine]) rfl
  have second := step_engine_restart (s.withEvents [.transaction 0x10000000001, .engine])
  have same := State.complete_restart_sameResults (s.withEvents [.transaction 0x10000000001, .engine]) []
  exact ⟨_, _, run_succ first 0, (run_succ first 2).trans ((run_succ start 1).trans (run_succ second 0)),
    same.regs, same.diag, same.errinfo, State.complete_restart_statusWord _ _⟩

end Sys2Proof.Machine

/-! PROOFS. Reset and hazards (spec/70_reset_and_hazards.md): what a reset leaves, the encode protocol, and the two
outcomes of a transaction that races the completion. -/

namespace Sys2Proof.Machine

/-! ### The state after a reset (R145, R147) -/

/-- The state after a reset, with the events `es` ahead and `n` resets taken. -/
def State.afterReset (es : List Event) (n : Nat) : State := { State.reset with events := es, resets := n }

theorem State.reset_eq_afterReset : State.reset = .afterReset [] 0 := rfl

theorem State.assertReset_eq_afterReset (s : State) : s.assertReset = .afterReset s.events (s.resets + 1) := rfl

/-- The machine starts as a reset leaves it (R145). -/
theorem exists_eq_afterReset {r : State}
    (h : r = State.reset ∨ ∃ (s : State) (es : List Event), s.events = .reset :: es ∧ step s = .next r) :
    ∃ es n, r = .afterReset es n := by
  rcases h with rfl | ⟨s, es, ev, hstep⟩
  · exact ⟨[], 0, State.reset_eq_afterReset⟩
  · rw [step_reset ev] at hstep
    cases hstep
    exact ⟨_, _, State.assertReset_eq_afterReset _⟩

theorem RegisterSet.zero_mslutWord : ∀ n, RegisterSet.zero.mslutWord n = 0 := by decide

theorem RegisterSet.zero_mslutstart : RegisterSet.zero.mslutstart = 0 := by decide

theorem State.afterReset_statusWord (es : List Event) (n : Nat) : (State.afterReset es n).statusWord = 0 := by
  change State.reset.statusWord = 0
  decide

/-- Settles O10: a reset is a step of its own, whatever was pending, and each element has its reset value. -/
theorem resetRestoresEveryElement : Obligations.ResetRestoresEveryElement := by
  intro s es ev
  refine ⟨(s.withEvents es).assertReset, step_reset ev, State.afterReset_statusWord _ _, rfl, rfl, rfl, rfl, rfl, rfl,
    rfl, rfl, ?diag, ?errinfo, RegisterSet.zero_mslutWord, rfl, RegisterSet.zero_mslutstart, rfl, rfl,
    State.slot_assertReset _⟩
  case diag => exact (by decide : Diag.zero.word = 0)
  case errinfo => exact (by decide : ErrInfo.zero.word = 0)

/-- Settles O59: a reset ends in a state of a safe run, and the invariants do not look at the model's fields, in which
alone the state that starts the machine differs from it. -/
theorem resetStateIsSafe : Obligations.ResetStateIsSafe :=
  ⟨{ State.ControlInv.assertReset (s := .reset) with }, { State.ResultInv.assertReset (s := .reset) with }⟩

/-! ### The encode protocol (R150) -/

/-- The step of a START that the idle block accepts (R72); 1 is the write data that the pseudo-instruction has (R66). -/
theorem step_startEncode {s : State} {es : List Event} (idle : s.busy = false)
    (ev : s.events = .transaction 0x10000000001 :: es) :
    step s = .next ((s.withEvents es).startEncode.respond okayWrite) := by
  rw [step_transaction ev, show decode 0x10000000001 = .wrCtrlStart 1 by decide]
  exact gatedWrite_of_idle (s := s.withEvents es) idle _

/-- The state that START and the completion leave of an idle block. -/
def State.encoded (s : State) : State := ((s.withEvents []).startEncode.respond okayWrite).complete

theorem run_encode {s : State} (idle : s.busy = false) (ev : s.events = [.transaction 0x10000000001, .engine]) :
    Host.Core.run core 2 s = .next s.encoded :=
  (run_succ (step_startEncode idle ev) 1).trans (run_succ (step_complete rfl rfl) 0)

/-- The encode reads the buffer that the START found. -/
theorem State.encoded_of_success {s : State} {o : EncodeSuccess} (h : s.encodeOutcome = .success o) :
    s.encoded = (((s.withEvents []).startEncode.respond okayWrite).commitSuccess o).endEncode :=
  State.complete_of_success h

theorem State.encoded_of_error {s : State} {o : EncodeFailure} (h : s.encodeOutcome = .error o) :
    s.encoded = (((s.withEvents []).startEncode.respond okayWrite).commitError o).endEncode :=
  State.complete_of_error h

theorem u32_neg_toNat (v : Byte) : u32 (-(v.toNat : Int)) = -zext32 v := by
  rw [u32, BitVec.ofInt_neg, ← u32, u32_toNat]

/-- Settles O11: the registers are empty, so RECON counts down from 0 (R123), and the count is 0, which is a SHAPE error
(R97). -/
theorem stateAfterReset : Obligations.StateAfterReset := by
  intro r hr
  obtain ⟨es, n, rfl⟩ := exists_eq_afterReset hr
  refine ⟨fun m i hi => ?reads, fun w => ⟨_, rfl, ?window⟩, _, run_encode rfl rfl, ?encode⟩
  case reads =>
    simp only [List.mem_cons, List.not_mem_nil, or_false] at hi
    rcases hi with rfl | rfl | rfl | rfl
    · exact congrArg (replyRead _) (State.afterReset_statusWord es n)
    · exact congrArg (replyRead _) (RegisterSet.zero_mslutWord m)
    · rfl
    · exact congrArg (replyRead _) RegisterSet.zero_mslutstart
  case window =>
    have index : u32 (-((windowIndex w).toNat : Int)) = -(w.extractLsb' 0 8).zeroExtend 32 := u32_neg_toNat _
    rw [← index]
    exact emptyRegisterSetReadsMinusTheIndex (((State.afterReset es n).selectWindow (windowIndex w)).respond okayWrite)
      RegisterSet.zero_mslutWord rfl RegisterSet.zero_mslutstart
  case encode =>
    have outcome : State.encodeOutcome { State.afterReset es n with events := [.transaction 0x10000000001, .engine] } =
        .error ⟨.shape, 0, true, false, 0, false⟩ := encodeWaveform_of_shapeBad (cnt := 0) (rng := false) rfl _
    rw [State.encoded_of_error outcome]
    refine ⟨?status, ?errinfo, ?diag⟩
    case status =>
      change State.statusWord (((State.reset.startEncode).commitError ⟨.shape, 0, true, false, 0, false⟩).endEncode) = _
      decide
    case errinfo => exact (by decide : ErrInfo.word ⟨0, true, false⟩ = 0x00010000)
    case diag => exact (by decide : Diag.word ⟨0, 0, 0⟩ = 0)

/-- A sample widened to the write data of its transaction is in range (R19). -/
theorem toInt_zeroExtend_byte (v : Byte) : (v.zeroExtend 32).toInt = v.toNat := by
  have byte := v.isLt
  have widened : (v.zeroExtend 32).toNat = v.toNat := BitVec.toNat_setWidth_of_le (by decide)
  rw [BitVec.toInt_eq_toNat_of_lt (by omega), widened]

/-- The write data's low byte is the sample that was widened (R60). -/
theorem extractLsb'_zeroExtend_byte (v : Byte) : (v.zeroExtend 32).extractLsb' 0 8 = v := by
  ext i hi
  simp [BitVec.getLsbD_eq_getElem, hi, Nat.lt_trans hi (show 8 < 32 by decide)]

theorem State.waveform_eq {s : State} {vs : List Byte} (len : vs.length = 256)
    (slots : ∀ k v, vs[k]? = some v → s.slot k = v) : s.waveform = vs :=
  List.ext_getElem (s.waveform_length.trans len.symm) fun k hs hv => by
    rw [State.waveform_getElem, slots k _ (List.getElem?_eq_getElem hv)]

/-- From a zeroed count and a clear RANGE_FLAG, 256 samples fill the buffer and pass the shape check (R97, R150). -/
theorem Loaded.whole {s t : State} {vs : List Byte} {es : List Event}
    (h : Loaded s (vs.map (·.zeroExtend 32)) es t) (len : vs.length = 256) (count : s.scount = 0)
    (range : s.rangeFlag = false) : t.waveform = vs ∧ t.scount = 256 ∧ t.rangeFlag = false := by
  refine ⟨State.waveform_eq len fun k v hv => ?slots, BitVec.eq_of_toNat_eq ?count, Bool.eq_false_iff.2 ?range⟩
  case slots =>
    have inside := (List.getElem?_eq_some_iff.1 hv).1
    have stored := h.stored k (v.zeroExtend 32) (by rw [List.getElem?_map, hv]; rfl) (by simp [count]; omega)
    rwa [count, extractLsb'_zeroExtend_byte, show (0 : BitVec 9).toNat = 0 from rfl, Nat.zero_add] at stored
  case count => simp [h.count, count, len]
  case range =>
    rw [ne_eq, h.range, range]
    rintro (clear | ⟨w, hw, out⟩)
    · cases clear
    · obtain ⟨v, -, rfl⟩ := List.mem_map.1 hw
      rw [toInt_zeroExtend_byte] at out
      have := v.isLt
      omega

/-- CLEAR and 256 sample writes leave an idle block with the samples in the buffer, ready to encode (R150). -/
theorem run_clear_loads {s : State} {vs : List Byte} {es : List Event} (idle : s.busy = false) (len : vs.length = 256)
    (ev : s.events = .transaction 0x10000000002 :: (sampleWrites (vs.map (·.zeroExtend 32)) ++ es)) :
    ∃ t, t.busy = false ∧ t.events = es ∧ t.waveform = vs ∧ t.scount = 256 ∧ t.rangeFlag = false ∧
      ∀ n, Host.Core.run core (257 + n) s = Host.Core.run core n t := by
  have first := step_clearInput idle ev
  obtain ⟨t, loaded, run⟩ := run_loads (vs.map (·.zeroExtend 32)) es
    ((s.withEvents (sampleWrites _ ++ es)).clearInput.respond okayWrite) idle (by simp) rfl
  obtain ⟨waveform, count, range⟩ := loaded.whole len rfl rfl
  rw [List.length_map, len] at run
  refine ⟨t, loaded.idle, loaded.ahead, waveform, count, range, fun n => ?_⟩
  rw [show 257 + n = 256 + n + 1 by omega]
  exact (run_succ first _).trans (run n)

/-- Settles O56: the loaded block is idle, so it accepts the START, and its completion commits the outcome of ENCODE on
the loaded samples. -/
theorem encodeProtocolComputesTheEncode : Obligations.EncodeProtocolComputesTheEncode := by
  intro s vs idle len ev
  have writes : s.events = .transaction 0x10000000002 :: (sampleWrites (vs.map (·.zeroExtend 32)) ++
      [.transaction 0x10000000001, .engine]) := by
    rw [ev, sampleWrites, List.map_map]
    rfl
  obtain ⟨t, ready, ahead, waveform, count, range, run⟩ := run_clear_loads idle len writes
  have outcome : t.encodeOutcome = encodeWaveform vs 256 false := by
    simp only [State.encodeOutcome, waveform, count, range]
  refine ⟨t.encoded, (run 2).trans (run_encode ready ahead), ?_⟩
  cases h : encodeWaveform vs 256 false with
  | success o =>
    rw [State.encoded_of_success (outcome.trans h)]
    exact ⟨rfl, rfl, waveform, count, rfl, rfl, rfl, rfl, rfl, rfl⟩
  | error o =>
    rw [State.encoded_of_error (outcome.trans h)]
    exact ⟨rfl, rfl, waveform, count, rfl, rfl, rfl, rfl, rfl, rfl, rfl⟩

/-! ### The completion on either side of a transaction (R153) -/

/-- A completion commutes with a change of the state that ENCODE does not read and a commit does not write. -/
theorem State.complete_comm {f : State → State} (outcome : ∀ s, (f s).encodeOutcome = s.encodeOutcome)
    (commit : ∀ s o, (f s).commit o = f (s.commit o)) (s : State) : (f s).complete = f s.complete := by
  simp only [State.complete, outcome, commit]

theorem State.complete_withEvents (s : State) (es : List Event) :
    (s.withEvents es).complete = s.complete.withEvents es :=
  State.complete_comm (f := (·.withEvents es)) (fun _ => rfl) (fun _ o => by cases o <;> rfl) s

theorem State.complete_respond (s : State) (r : Response) : (s.respond r).complete = s.complete.respond r :=
  State.complete_comm (f := (·.respond r)) (fun _ => rfl) (fun _ o => by cases o <;> rfl) s

theorem State.complete_noteIgnored (s : State) : s.noteIgnored.complete = s.complete.noteIgnored :=
  State.complete_comm (f := State.noteIgnored) (fun _ => rfl) (fun _ o => by cases o <;> rfl) s

/-- The completion falls after the transaction, which leaves the encode pending. -/
theorem run_transaction_engine {s v : State} {tw : TransactionWord}
    (performed : exec (decode tw) (s.withEvents [.engine]) = .next v) (busy : v.busy = true)
    (ahead : v.events = [.engine]) :
    Host.Core.run core 2 (s.withEvents [.transaction tw, .engine]) = .next (v.complete.withEvents []) := by
  have first : step (s.withEvents [.transaction tw, .engine]) = .next v := (step_transaction rfl).trans performed
  rw [← State.complete_withEvents]
  exact (run_succ first 1).trans (run_succ (step_complete busy ahead) 0)

/-- The completion falls before the transaction, which the completed block performs. -/
theorem run_engine_transaction {s v : State} {tw : TransactionWord} (busy : s.busy = true)
    (performed : exec (decode tw) (s.complete.withEvents []) = .next v) :
    Host.Core.run core 2 (s.withEvents [.engine, .transaction tw]) = .next v := by
  have first : step (s.withEvents [.engine, .transaction tw]) = .next (s.complete.withEvents [.transaction tw]) :=
    State.complete_withEvents s _ ▸ step_complete busy rfl
  have second : step (s.complete.withEvents [.transaction tw]) = .next v := (step_transaction rfl).trans performed
  exact (run_succ first 1).trans (run_succ second 0)

/-- A gated write with the completion after it: the write is ignored and noted (R69). -/
theorem run_gatedWrite_engine {s : State} {tw : TransactionWord} {effect : State → State} (busy : s.busy = true)
    (row : ∀ s, exec (decode tw) s = gatedWrite s (effect s)) :
    Host.Core.run core 2 (s.withEvents [.transaction tw, .engine]) =
      .next ((s.complete.withEvents []).noteIgnored.respond okayWrite) := by
  have ignored := (row _).trans (gatedWrite_of_busy (s := s.withEvents [.engine]) busy _)
  rw [run_transaction_engine ignored busy rfl, State.complete_respond, State.complete_noteIgnored,
    State.complete_withEvents]
  rfl

/-- A gated write with the completion before it: the completed block is idle and accepts the write (R69, R95). -/
theorem run_engine_gatedWrite {s : State} {tw : TransactionWord} {effect : State → State} (busy : s.busy = true)
    (row : ∀ s, exec (decode tw) s = gatedWrite s (effect s)) :
    Host.Core.run core 2 (s.withEvents [.engine, .transaction tw]) =
      .next ((effect (s.complete.withEvents [])).respond okayWrite) :=
  have idle : (s.complete.withEvents []).busy = false := s.complete_busy
  run_engine_transaction busy ((row _).trans (gatedWrite_of_idle idle _))

theorem State.slot_complete (s : State) (k : Nat) : s.complete.slot k = s.slot k := by
  obtain ⟨smp, -, -, -, -, -, -, resets⟩ := s.complete_frame
  rw [State.slot, State.slot, smp, resets]

/-- Settles O34: in both orders the results are those of the one completion, and the write meets a count, a flag and a
buffer that the completion has left alone. -/
theorem completionFallsOnEitherSideOfAWrite : Obligations.CompletionFallsOnEitherSideOfAWrite := by
  intro s w busy
  have row : ∀ s, exec (decode (encode (.wrSampleData w))) s = gatedWrite s (s.acceptSample w) := fun s => by
    rw [decode_encode_wrSampleData]
    rfl
  have ignored := run_gatedWrite_engine busy row
  have accepted := run_engine_gatedWrite busy row
  have idle := s.complete_busy
  have slots := s.slot_complete
  obtain ⟨smp, scount, rangeFlag, wrIgnored, -⟩ := s.complete_frame
  -- Of the completed state only these facts matter, in both outcomes.
  generalize s.complete = c at ignored accepted idle slots smp scount rangeFlag wrIgnored
  refine ⟨_, _, ignored, accepted, rfl, scount, smp, rangeFlag, slots, wrIgnored, ?count, ?range, fun k => ?slot,
    fun full => ?full, rfl, rfl, rfl, rfl, rfl, rfl, rfl, idle, idle⟩
  case count => rw [State.respond_scount, State.acceptSample_scount, nextCount_toNat, State.withEvents_scount, scount]
  case range =>
    rw [State.respond_rangeFlag, State.acceptSample_rangeFlag, Bool.or_eq_true, sampleOutOfRange_iff,
      State.withEvents_rangeFlag, rangeFlag]
  case slot =>
    rw [State.slot_respond, State.slot_acceptSample, State.slot_withEvents, State.withEvents_scount, scount, slots]
    rfl
  case full =>
    rw [State.respond_smp, State.acceptSample_smp, State.storeSample, State.withEvents_scount, scount,
      if_neg (Nat.not_lt.2 full), State.withEvents_smp, smp]

theorem State.command_of_clear {w : Word} (clear : w.getLsbD 1 = true) (s : State) : s.command w = s.clearInput :=
  if_pos clear

theorem State.command_of_start {w : Word} (start : w.getLsbD 0 = true) (clear : w.getLsbD 1 = false) (s : State) :
    s.command w = s.startEncode :=
  (if_neg (ne_true_of_eq_false clear)).trans (if_pos start)

theorem State.command_of_nop {w : Word} (start : w.getLsbD 0 = false) (clear : w.getLsbD 1 = false) (s : State) :
    s.command w = s :=
  (if_neg (ne_true_of_eq_false clear)).trans (if_neg (ne_true_of_eq_false start))

/-- Settles O35: the CTRL write is a gated write of its command, and the STATUS read shows the BUSY of the state that it
meets. -/
theorem completionFallsOnEitherSideOfACommandOrAStatusRead :
    Obligations.CompletionFallsOnEitherSideOfACommandOrAStatusRead := by
  intro s busy
  have row (w : Word) : ∀ s, exec (decode (transactionWord true 0x00 w)) s = gatedWrite s (s.command w) := fun s =>
    (congrArg (exec · s) (decode_transactionWord_write .ctrl w)).trans (exec_decodeCtrlWrite w s)
  have read : ∀ s, exec (decode (encode .rdStatus)) s = .next (s.respond (okayRead s.statusWord)) := fun s =>
    congrArg (exec · s) (decode_transactionWord_read .status 0)
  obtain ⟨pending, -⟩ := s.statusWord_flags
  obtain ⟨completed, -⟩ := s.complete.statusWord_flags
  refine ⟨fun w => ⟨run_gatedWrite_engine busy (row w), (run_engine_gatedWrite busy (row w)).trans ?command⟩,
    s.statusWord, s.complete.statusWord, pending.trans busy, completed.trans s.complete_busy,
    (run_transaction_engine (read _) busy rfl).trans ?ahead, run_engine_transaction busy (read _)⟩
  case command =>
    cases clear : w.getLsbD 1 with
    | true => rw [State.command_of_clear clear]; rfl
    | false =>
      cases start : w.getLsbD 0 with
      | true => rw [State.command_of_start start clear]; rfl
      | false => rw [State.command_of_nop start clear]; rfl
  case ahead =>
    rw [State.complete_respond, State.complete_withEvents]
    rfl

end Sys2Proof.Machine
